-- ==== Sys2Proof/Word.lean ====
section
/-! DEFINITION. The word types of the VMTE (00_scope.md rules R6, R10, R11) and the sizes that R6 fixes. -/

namespace Sys2Proof

/-- One byte: an element of the physical memory buffer and of the backing store (R60). -/
abbrev Byte := BitVec 8

/-- A page number, 0 to 255 (R6 `PAGE_BITS`, R18). -/
abbrev Page := BitVec 8

/-- An offset within a page, 0 to 255 (R6 `OFFSET_BITS`, R18). -/
abbrev Offset := BitVec 8

/-- A frame number, zero-extended from `FRAME_BITS` to 8 bits as the stored formats of R106 carry it.
That it is below `NUM_FRAMES` (R22, R23, R25) is an invariant of the model, not a fact of this type. -/
abbrev Frame := BitVec 8

/-- A virtual address, 16 bits (R61). -/
abbrev Vaddr := BitVec 16

/-- A physical address, zero-extended from `PADDR_BITS` to 16 bits as RESP32 carries it (R94). -/
abbrev Paddr := BitVec 16

/-- `VADDR_BITS` of R6. -/
abbrev vaddrBits : Nat := 16

/-- `OFFSET_BITS` of R6. -/
abbrev offsetBits : Nat := 8

/-- `PAGE_SIZE` of R6: bytes per page and per frame. -/
abbrev pageSize : Nat := 256

/-- `NUM_PAGES` of R6: the number of page-table slots. -/
abbrev numPages : Nat := 256

end Sys2Proof
end

