-- ==== Sys2Proof/Config.lean ====
section
/-! DEFINITION. The parameter record of 00_scope.md rule R6 with its default values, and the values the spec
leaves open, as opaque constants that no proof can evaluate. -/

namespace Sys2Proof

/-- `STALE_TLB_POLICY` of R6 and R9: what becomes of a TLB entry whose page the page table evicts. -/
inductive StalePolicy where
  /-- The entry stays until the TLB's own FIFO pushes it out (R116). -/
  | preserve
  /-- TLB.INVAL removes the entry in the evicting transaction (R113, R116). -/
  | invalidate
  deriving DecidableEq, Repr

/-- The configurable parameters of R6. They are fixed when an engine is constructed; no operation changes
them, RESET included (R220). -/
structure Params where
  /-- `NUM_FRAMES`: frames of the physical memory buffer, 1 to 256. -/
  numFrames : Nat
  /-- `TLB_SIZE`: capacity of the TLB in entries, 1 or more. -/
  tlbSize : Nat
  /-- `BS_PAGES`: pages the backing store holds, 0 to 256. -/
  bsPages : Nat
  /-- `STALE_TLB_POLICY`. -/
  policy : StalePolicy
  deriving DecidableEq, Repr

/-- The values R6 gives for this hardware. -/
def Params.default : Params :=
  { numFrames := 128, tlbSize := 16, bsPages := 256, policy := .preserve }

/-- `MEM_BYTES` of R6: bytes of the physical memory buffer. -/
def Params.memBytes (c : Params) : Nat := c.numFrames * pageSize

/-- `FRAME_BITS` of R6: ceil(log2(`NUM_FRAMES`)), at least 1. -/
def Params.frameBits (c : Params) : Nat := max 1 (Nat.clog 2 c.numFrames)

/-- `PADDR_BITS` of R6. -/
def Params.paddrBits (c : Params) : Nat := c.frameBits + offsetBits

/-- The byte of the backing store at an offset that the run's listing of the store does not fix. R16: the content
`B` is any function. DESIGN CHOICE, safe: an opaque constant, so a claim holds whatever it is (log entry 5). -/
opaque Config.storeByte : Nat → Byte

/-- The bits found in transaction or result register number `k` once it has lost its architectural value, at the
`n`-th such loss (R30, R31, R200 (f): "no architectural value"). DESIGN CHOICE, safe: an opaque constant, applied to
the state's counter of losses (log entry 7). -/
opaque Config.lostBits : Nat → Nat → BitVec 16

end Sys2Proof
end

