-- ==== Sys2Proof/Syntax.lean ====
section
/-! DEFINITION. The operations of 30_encoding.md rule R90, one constructor per row of spec/opcode_table.json. -/

namespace Sys2Proof

/-- The external command, the ten micro-operations of the sequencer and the pin-driven system operation (R90). A
micro-operation carries no operand field: it takes its operands from the transaction registers (R30, R31). -/
inductive Instr where
  /-- `TRANSLATE va` (R161), the only command of the request port (R91). -/
  | translate (va : Vaddr)
  /-- `VA.SPLIT` (R151), phase `SPLIT`. -/
  | vaSplit
  /-- `TLB.LOOKUP` (R111), phase `TLBL`. -/
  | tlbLookup
  /-- `PT.LOOKUP` (R131), phase `PTL`. -/
  | ptLookup
  /-- `PT.ALLOC` (R132), phase `ALLOC`. -/
  | ptAlloc
  /-- `TLB.INVAL` (R113), phase `INVAL`. -/
  | tlbInval
  /-- `BS.FILL` (R157), phase `FILL`. -/
  | bsFill
  /-- `TLB.INSERT` (R112), phase `TLBI`. -/
  | tlbInsert
  /-- `PA.COMBINE` (R156), phase `COMB`. -/
  | paCombine
  /-- `MEM.READ` (R158), phase `READ`. -/
  | memRead
  /-- `RESPOND` (R164), phase `RESP`. -/
  | respond
  /-- `RESET` (R220), the level of the reset pin. -/
  | reset
  deriving DecidableEq, Repr

end Sys2Proof
end

