-- ==== Sys2Proof/WellFormed.lean ====
section
/-! DEFINITION. The checks on the terms a machine is built from. The parameter record has ranges to check (00_scope.md
rule R6, 93_implementation_defined.md U13). An instruction has none: the one operand, a virtual address, is 16 bits
wide and every pattern is legal (30_encoding.md rule R102). -/

namespace Sys2Proof

/-- `NUM_FRAMES` is in 1 to 256 (R6). -/
def Params.framesOk (c : Params) : Bool := decide (1 ≤ c.numFrames) && decide (c.numFrames ≤ 256)

/-- `TLB_SIZE` is 1 or more (R6). -/
def Params.tlbOk (c : Params) : Bool := decide (1 ≤ c.tlbSize)

/-- `BS_PAGES` is in 0 to 256 (R6). -/
def Params.storeOk (c : Params) : Bool := decide (c.bsPages ≤ 256)

/-- Every parameter is inside its legal range (R6). -/
def Params.wf (c : Params) : Bool := c.framesOk && c.tlbOk && c.storeOk

/-- Every instruction is well formed: REQ16 has no illegal, reserved or hint pattern (R102), and the other
operations carry no operand field. -/
def Instr.wellFormed : Instr → Bool
  | .translate _ => true
  | .vaSplit => true
  | .tlbLookup => true
  | .ptLookup => true
  | .ptAlloc => true
  | .tlbInval => true
  | .bsFill => true
  | .tlbInsert => true
  | .paCombine => true
  | .memRead => true
  | .respond => true
  | .reset => true

end Sys2Proof
end

