-- ==== Sys2Proof/Decode.lean ====
section
/-! DEFINITION. The three encodings of 30_encoding.md: the request word REQ16 (R91), the sequencer's phase code SEQ4
(R100) and the level of the reset pin (R220). The decoder is total and rejects by name; the encoder follows it. -/

namespace Sys2Proof

/-- A word on one of the places an operation is selected from. Each format has a place of its own, so a word is
read together with its place. -/
inductive PortWord where
  /-- REQ16, the request port (R91). -/
  | req16 (w : BitVec 16)
  /-- SEQ4, the sequencer's phase register (R100). -/
  | seq4 (c : BitVec 4)
  /-- PIN, the reset input (R220). -/
  | pin (level : BitVec 1)
  deriving DecidableEq, Repr

/-- Why a word selects no operation. -/
inductive DecodeError where
  /-- Phase code 0, `IDLE`, performs no micro-operation (R100). -/
  | idlePhase
  /-- Phase codes 11 to 14 are unused and never taken (R100, R102). -/
  | unusedPhase (c : BitVec 4)
  /-- Phase code 15, `HALT`, performs no micro-operation (R100). -/
  | haltPhase
  /-- The reset pin is low: no RESET (R220, active high). -/
  | resetLow
  deriving DecidableEq, Repr

/-- Format REQ16: every pattern is a TRANSLATE of the word itself (R91, R102). -/
def decodeReq16 (w : BitVec 16) : Except DecodeError Instr := .ok (.translate w)

/-- Format SEQ4: a micro-operation's encoding is the code of the phase that performs it (R100). -/
def decodeSeq4 (c : BitVec 4) : Except DecodeError Instr :=
  match c.toNat with
  | 0 => .error .idlePhase
  | 1 => .ok .vaSplit
  | 2 => .ok .tlbLookup
  | 3 => .ok .ptLookup
  | 4 => .ok .ptAlloc
  | 5 => .ok .tlbInval
  | 6 => .ok .bsFill
  | 7 => .ok .tlbInsert
  | 8 => .ok .paCombine
  | 9 => .ok .memRead
  | 10 => .ok .respond
  | 15 => .error .haltPhase
  | _ => .error (.unusedPhase c)

/-- Format PIN: RESET is selected by the high level (R220). -/
def decodePin (level : BitVec 1) : Except DecodeError Instr :=
  if level = 1#1 then .ok .reset else .error .resetLow

/-- The operation a word selects at its place, or the reason why it selects none. -/
def decode : PortWord → Except DecodeError Instr
  | .req16 w => decodeReq16 w
  | .seq4 c => decodeSeq4 c
  | .pin level => decodePin level

/-- The word that selects an operation, from R91, R100 and R220. -/
def encode : Instr → PortWord
  | .translate va => .req16 va
  | .vaSplit => .seq4 0b0001#4
  | .tlbLookup => .seq4 0b0010#4
  | .ptLookup => .seq4 0b0011#4
  | .ptAlloc => .seq4 0b0100#4
  | .tlbInval => .seq4 0b0101#4
  | .bsFill => .seq4 0b0110#4
  | .tlbInsert => .seq4 0b0111#4
  | .paCombine => .seq4 0b1000#4
  | .memRead => .seq4 0b1001#4
  | .respond => .seq4 0b1010#4
  | .reset => .pin 1#1

/-- Which place a word of spec/opcode_table.json stands at, told by its size alone: 1 bit is the reset pin, 2 to 8 bits
the 4-bit phase code (the bits above it zero), 9 to 16 bits the request port. DESIGN CHOICE: the table numbers the
places apart by format, not by bits, and in whole bytes the rows VA.SPLIT and RESET hold the same word; that
word is read as the phase code (log entry 14). -/
def tableWord (nbits w : Nat) : Option PortWord :=
  if nbits = 0 then none
  else if nbits = 1 then (if w < 2 then some (.pin (BitVec.ofNat 1 w)) else none)
  else if nbits ≤ 8 then (if w < 16 then some (.seq4 (BitVec.ofNat 4 w)) else none)
  else if nbits ≤ 16 then (if w < 65536 then some (.req16 (BitVec.ofNat 16 w)) else none)
  else none

/-- The instruction the decoder reads from an opcode-table word of `nbits` bits. -/
def decodeTableWord (nbits w : Nat) : Option Instr :=
  match tableWord nbits w with
  | none => none
  | some pw =>
    match decode pw with
    | .ok i => some i
    | .error _ => none

end Sys2Proof
end

