-- ==== Sys2Proof/Machine/State.lean ====
section
/-! DEFINITION. The state of the VMTE (10_state.md), the inputs and outputs of its ports, the reasons a step can stop,
and the state after reset (10_state.md rule R48, 70_reset_and_hazards.md rule R221). All of it is plain data. -/

namespace Sys2Proof.Machine

/-- The twelve phases of the sequencer (R44, R100). R102: an enumeration, so that the unused codes cannot be held. -/
inductive Phase where
  | idle | split | tlbl | ptl | alloc | inval | fill | tlbi | comb | read | resp | halt
  deriving DecidableEq, Repr

/-- The failure kinds a backing-store read can report (R191, codes 1 to 3). -/
inductive FailKind where
  | ioError | shortRead | unreachableOffset
  deriving DecidableEq, Repr

/-- The contents of `err_cause` (R41, R101): no fault yet, or the kind of the one fault. -/
inductive ErrCause where
  | none | ioError | shortRead | unreachableOffset
  deriving DecidableEq, Repr

/-- Whether the Backing Store Reader answers its next read with the page or with a failure (R17, R206). It is an
input from the environment. The bytes of a good answer are not chosen here: they are the store's (R206 (a)). -/
inductive ReaderAnswer where
  | ok
  | err (k : FailKind)
  deriving DecidableEq, Repr

/-- The two levels of description of R14: a step is a whole transaction (normative), or one phase of it. -/
inductive Level where
  | transaction | phase
  deriving DecidableEq, Repr

/-- A pair (page, frame): a TLB entry (R22) or a replacement-queue entry (R25). -/
structure Entry where
  page : Page
  frame : Frame
  deriving DecidableEq, Repr

/-- The result record of R93, the source's Translation Result (R31). -/
structure Result where
  /-- Physical address, frame base + offset. -/
  paddr : Paddr
  /-- The signed byte value, -128 to 127 (R160). -/
  value : Int
  tlbHit : Bool
  pageFault : Bool
  deriving DecidableEq, Repr

/-- A byte array by address: the listed bytes, addresses strictly rising. An unlisted address holds no value, so no
entry can equal what an unlisted address reads as. -/
abbrev Memory := List Host.Cell

/-- The canonical form of a memory: addresses strictly rising. -/
abbrev Memory.wf (m : Memory) : Prop := m.Pairwise (fun c d => c.1 < d.1)

/-- The 256-slot page table (R23): `none` is not resident, `some f` is resident in frame `f`. The resident flag
`pt_present[p]` of R24 is whether the slot is `some`; an absent slot holds no frame that a rule could read
(log entry 20). -/
abbrev PageTable := Vector (Option Frame) 256

/-- Why a step can stop with a fault. Neither is raised in a state that meets the invariant of Safety.lean. -/
inductive Fault where
  /-- MEM.READ of a byte of the physical memory that no BS.FILL has written since reset, or that a failed fill
  left without value. Raised by MEM.READ and TRANSLATE. Safe: R48 and R200 (d) give the byte no architectural
  value, and R81 shows that no reachable state reads one. -/
  | unwrittenByte (a : Nat)
  /-- An access to a physical address at or beyond `MEM_BYTES`. Raised by MEM.READ, BS.FILL and TRANSLATE. Safe:
  R62 and R66 say that such an access cannot be formed. -/
  | noSuchAddress (a : Nat)
  deriving DecidableEq, Repr

/-- Why a step can be refused. -/
inductive Refusal where
  /-- An instruction without a meaning in this model. No arm of `exec` raises it. Safe. -/
  | notModelled (mnemonic : String)
  /-- PT.ALLOC of a page that is resident. Raised by PT.ALLOC and TRANSLATE. Safe: R133 and U3 of
  93_implementation_defined.md have a model refuse the call and define no result. -/
  | allocOnResidentPage (p : Page)
  /-- PT.ALLOC with every frame allocated and an empty replacement queue. Raised by PT.ALLOC and TRANSLATE. Safe:
  R139 (d) says that the queue is never empty there, and the pseudocode of R132 has no front to pop. -/
  | emptyReplacementQueue
  /-- A machine whose parameters are outside the ranges of R6. Raised by `step`. Safe: U13 of
  93_implementation_defined.md defines no behaviour outside the ranges. -/
  | illegalParameters
  deriving DecidableEq, Repr

/-- The machine. The first group is constant during a run; the second holds the levels on the input ports and what the
environment will present; the third is what the driver has been given; the rest is the state of R20. -/
structure State where
  /-- The parameters of R6. Constant (log entry 1). -/
  params : Params
  /-- Which level of R14 a step works at. The model's own field. Constant (log entry 2). -/
  level : Level
  /-- The listed bytes of the backing store `B` by byte offset (R16, R63). Constant. -/
  store : Memory
  /-- Input `reset`, active high (R220; for the inputs, log entry 3). -/
  resetPin : Bool
  /-- The requests the driver holds, in order; the first, if any, is on the request port with `req_valid = 1`
  (R92, R231). -/
  requests : List Vaddr
  /-- Input `resp_ready` (R95). -/
  respReady : Bool
  /-- What the Backing Store Reader answers to the coming reads, in order (R97, R206). Empty: it has not answered
  (log entry 9). -/
  answers : List ReaderAnswer
  /-- The results the driver has taken, in order (R95). The model's own record of the response port (log
  entry 16). -/
  delivered : List Result
  /-- `tlb` (R21), oldest insertion first. -/
  tlb : List Entry
  /-- `pt` (R23, R24). -/
  pt : PageTable
  /-- `rq` (R25), front first. -/
  rq : List Entry
  /-- `alloc_count` (R26). -/
  allocCount : Nat
  /-- `mem` (R27). -/
  mem : Memory
  /-- `req_vaddr` (R30). -/
  reqVaddr : Vaddr
  /-- `cur_page` (R30). -/
  curPage : Page
  /-- `cur_offset` (R30). -/
  curOffset : Offset
  /-- `cur_frame` (R30). -/
  curFrame : Frame
  /-- `evict_valid` (R30). -/
  evictValid : Bool
  /-- `evict_page` (R30). -/
  evictPage : Page
  /-- `res_paddr` (R31). -/
  resPaddr : Paddr
  /-- `res_value` (R31). -/
  resValue : Byte
  /-- `res_tlb_hit` (R31). -/
  resTlbHit : Bool
  /-- `res_page_fault` (R31). -/
  resPageFault : Bool
  /-- `phase` (R44). `halted` (R45) is whether it is `halt`; it is no separate storage element. -/
  phase : Phase
  /-- `err_cause` (R41, R101). -/
  errCause : ErrCause
  /-- `err_page` (R41). -/
  errPage : Page
  /-- How often the transaction registers have lost their architectural value; the argument of
  `Config.lostBits`. The model's own field (log entry 7). -/
  losses : Nat
  deriving DecidableEq, Repr

/-- The machine right after reset (R48, R221) with nothing presented at its ports. The spec fixes `tlb`, `pt`, `rq`,
`alloc_count`, `phase` and `err_cause`, and gives `mem` no value. It gives the other registers no architectural value.
DESIGN CHOICE, unsafe: they hold zero here (log entry 6). -/
def State.reset : State where
  params := Params.default
  level := .transaction
  store := []
  resetPin := false
  requests := []
  respReady := true
  answers := []
  delivered := []
  tlb := []
  pt := Vector.replicate 256 none
  rq := []
  allocCount := 0
  mem := []
  reqVaddr := 0
  curPage := 0
  curOffset := 0
  curFrame := 0
  evictValid := false
  evictPage := 0
  resPaddr := 0
  resValue := 0
  resTlbHit := false
  resPageFault := false
  phase := .idle
  errCause := .none
  errPage := 0
  losses := 0

end Sys2Proof.Machine
end

