-- ==== Sys2Proof/Machine/Operands.lean ====
section
/-! DEFINITION. How operands are assembled and how the interface words and stored entries are laid out
(30_encoding.md rules R91, R94, R96, R99, R100, R101, R103, R106, and R10, R11 of 00_scope.md). -/

namespace Sys2Proof.Machine

/-- `page = va >> 8`, the field 15:8 of REQ16 (R91, R151). -/
def pageOf (va : Vaddr) : Page := va.extractLsb' 8 8

/-- `offset = va & 0xFF`, the field 7:0 of REQ16 (R91, R151). -/
def offsetOf (va : Vaddr) : Offset := va.extractLsb' 0 8

/-- PA.COMBINE: `f × 256 + o`, the concatenation of frame and offset (R103, R156). -/
def combine (f : Frame) (o : Offset) : Paddr := f ++ o

/-- The byte address of a frame's first byte in the physical memory (R73). -/
def frameBase (f : Frame) : Nat := f.toNat * pageSize

/-- The offset of a page's first byte in the backing store (R63, R96 `bs_offset`). -/
def storeBase (p : Page) : Nat := p.toNat * pageSize

/-- `bs_offset = {page, 0x00}` as the 16-bit word of BSREQ (R96, R103). -/
def bsOffset (p : Page) : BitVec 16 := p ++ 0#8

/-- `signed8` (R11, R160). PRESUMED: two's complement (log entry 4). -/
def signed8 (b : Byte) : Int := if b.toNat < 128 then (b.toNat : Int) else (b.toNat : Int) - 256

/-- The byte a consumer wants in `n` bits (R103). -/
def sextByte (n : Nat) (b : Byte) : BitVec n := b.signExtend n

/-- The driver's reduction of a 32-bit input integer to a request, `n[15:0]` (R99). It happens outside the VMTE. -/
def maskRequest (n : BitVec 32) : Vaddr := n.extractLsb' 0 16

/-- The 4-bit code of a phase (R100). -/
def phaseCode : Phase → BitVec 4
  | .idle => 0#4
  | .split => 1#4
  | .tlbl => 2#4
  | .ptl => 3#4
  | .alloc => 4#4
  | .inval => 5#4
  | .fill => 6#4
  | .tlbi => 7#4
  | .comb => 8#4
  | .read => 9#4
  | .resp => 10#4
  | .halt => 15#4

/-- The phase a code stands for; none for the unused codes 11 to 14 (R100, R102). -/
def phaseOfCode (c : BitVec 4) : Option Phase :=
  match c.toNat with
  | 0 => some .idle
  | 1 => some .split
  | 2 => some .tlbl
  | 3 => some .ptl
  | 4 => some .alloc
  | 5 => some .inval
  | 6 => some .fill
  | 7 => some .tlbi
  | 8 => some .comb
  | 9 => some .read
  | 10 => some .resp
  | 15 => some .halt
  | _ => none

/-- `code(k)`: what `err_cause` holds for a failure kind (R191). -/
def causeOf : FailKind → ErrCause
  | .ioError => .ioError
  | .shortRead => .shortRead
  | .unreachableOffset => .unreachableOffset

/-- The 2-bit code in `err_cause` (R101). -/
def causeCode : ErrCause → BitVec 2
  | .none => 0#2
  | .ioError => 1#2
  | .shortRead => 2#2
  | .unreachableOffset => 3#2

/-- Formats TLBE and RQE: page in 15:8, frame in 7:0 (R106). -/
def entryWord (e : Entry) : BitVec 16 := e.page ++ e.frame

/-- Format PTE: present in bit 8, frame in 7:0 (R106). The frame field of an absent slot has no architectural
value; its bits here are the argument `noValue`, which nothing constrains. -/
def pteWord (slot : Option Frame) (noValue : Byte) : BitVec 9 :=
  match slot with
  | some f => 1#1 ++ f
  | none => 0#1 ++ noValue

/-- Format RESP32: zero 31:26, page_fault 25, tlb_hit 24, value 23:16, paddr 15:0 (R94). -/
def resp32 (paddr : Paddr) (value : Byte) (tlbHit pageFault : Bool) : BitVec 32 :=
  paddr.setWidth 32 ||| (value.setWidth 32 <<< 16) ||| ((BitVec.ofBool tlbHit).setWidth 32 <<< 24) |||
    ((BitVec.ofBool pageFault).setWidth 32 <<< 25)

/-- RESP32 of a result record. The value field is the byte whose signed reading is the record's value. -/
def Result.word (r : Result) : BitVec 32 := resp32 r.paddr (BitVec.ofInt 8 r.value) r.tlbHit r.pageFault

end Sys2Proof.Machine
end

