-- ==== Sys2Proof/Machine/Flags.lean ====
section
/-! DEFINITION. The flags of the VMTE and its status outputs (10_state.md rules R31, R32, R44, R45; 30_encoding.md rules
R92, R93, R95, R98). The VMTE has no condition codes and no arithmetic flags (R32). -/

namespace Sys2Proof.Machine

/-- The result flags of a TLB hit: `res_tlb_hit <- 1`, `res_page_fault <- 0` (R163, phase `TLBL`). -/
def State.flagTlbHit (s : State) : State := { s with resTlbHit := true, resPageFault := false }

/-- The result flag of a TLB miss: `res_tlb_hit <- 0` (R163, phase `TLBL`). -/
def State.flagTlbMiss (s : State) : State := { s with resTlbHit := false }

/-- The result flag of a page-table lookup: `res_page_fault` is 1 exactly when the slot is absent (R163, phase
`PTL`). -/
def State.flagPageFault (s : State) (fault : Bool) : State := { s with resPageFault := fault }

/-- The resident flag `pt_present[p]` (R24, R32). -/
def State.resident (s : State) (p : Page) : Bool := (s.pt[p.toNat]'p.isLt).isSome

/-- `halted` (R45, R98): the phase is `HALT`. -/
def State.halted (s : State) : Bool := s.phase == .halt

/-- `fatal` (R98, R197): the level of `halted`, for an interrupt controller or a supervisor. -/
def State.fatal (s : State) : Bool := s.halted

/-- `busy`: the phase is neither `IDLE` nor `HALT` (R44, R98). -/
def State.busy (s : State) : Bool := s.phase != .idle && s.phase != .halt

/-- `req_ready`: 1 exactly when the phase is `IDLE` (R92), and 0 while reset is held (R220). -/
def State.reqReady (s : State) : Bool := !s.resetPin && s.phase == .idle

/-- `req_valid`: the driver presents a request (R92). -/
def State.reqValid (s : State) : Bool := !s.requests.isEmpty

/-- `resp_valid`: 1 exactly when the phase is `RESP` (R95), and 0 while reset is held (R220). -/
def State.respValid (s : State) : Bool := !s.resetPin && s.phase == .resp

/-- The page number on the backing-store request port (BSREQ, R96): a request is made only in phase `FILL` (R206)
and not while reset is held (R220). -/
def State.bsRequest (s : State) : Option Page :=
  if !s.resetPin && s.phase == .fill then some s.curPage else none

/-- STATUS16: zero 15:12, busy 11, halted 10, err_cause 9:8, err_page 7:0 with 0 while `err_cause = 0` (R98). -/
def State.status16 (s : State) : BitVec 16 :=
  (if s.errCause = .none then 0#8 else s.errPage).setWidth 16 ||| ((causeCode s.errCause).setWidth 16 <<< 8) |||
    ((BitVec.ofBool s.halted).setWidth 16 <<< 10) ||| ((BitVec.ofBool s.busy).setWidth 16 <<< 11)

/-- The record on the response port (R93, R164). -/
def State.result (s : State) : Result :=
  { paddr := s.resPaddr, value := signed8 s.resValue, tlbHit := s.resTlbHit, pageFault := s.resPageFault }

/-- The word on the response port (R94). -/
def State.respWord (s : State) : BitVec 32 := resp32 s.resPaddr s.resValue s.resTlbHit s.resPageFault

/-- The outcome classes of a completed TRANSLATE (R162). -/
inductive OutcomeClass where
  | tlbHit | pageTableHit | pageFault
  deriving DecidableEq, Repr

/-- The class a result's flags name; none for the pair that never occurs (R162). -/
def Result.outcomeClass (r : Result) : Option OutcomeClass :=
  match r.tlbHit, r.pageFault with
  | true, false => some .tlbHit
  | false, false => some .pageTableHit
  | false, true => some .pageFault
  | true, true => none

end Sys2Proof.Machine
end

