-- ==== Sys2Proof/Machine/Ops.lean ====
section
/-! DEFINITION. The named operations over memory, tables, ports and registers that the meanings share: the memory
primitives (20_memory.md), the three table structures (40_tlb.md, 41_page_table.md), the backing-store read and the
one exception with its only way back, RESET (60_exceptions.md, 70_reset_and_hazards.md). -/

namespace Sys2Proof.Machine

/-! ## Memory -/

/-- The byte listed at an address, if any (R66). -/
def Memory.read (m : Memory) (a : Nat) : Option Byte := List.lookup a m

/-- The cells of a block of bytes that starts at an address. -/
def blockCells (base : Nat) : List Byte → Memory
  | [] => []
  | b :: bs => (base, b) :: blockCells (base + 1) bs

/-- The memory with `n` bytes from `base` on without value (R200 (d)). -/
def Memory.erase (m : Memory) (base n : Nat) : Memory :=
  m.filter (fun c => decide (c.1 < base) || decide (base + n ≤ c.1))

/-- `mem[base + i] <- d[i]` for every `i`, and no other byte changes (R67). -/
def Memory.writeBlock (m : Memory) (base : Nat) (d : List Byte) : Memory :=
  m.filter (fun c => decide (c.1 < base)) ++ blockCells base d ++ m.filter (fun c => decide (base + d.length ≤ c.1))

/-- `MemRead(a, 1)` (R66): an address at or beyond `MEM_BYTES` does not exist, and a byte without value faults. -/
def memRead (c : Params) (m : Memory) (a : Nat) : Except Fault Byte :=
  if a < c.memBytes then
    match m.read a with
    | some b => .ok b
    | none => .error (.unwrittenByte a)
  else .error (.noSuchAddress a)

/-- `MemWrite(f × 256, 256, d)` (R67): a frame at or beyond `NUM_FRAMES` does not exist. -/
def memWriteFrame (c : Params) (m : Memory) (f : Frame) (d : List Byte) : Except Fault Memory :=
  if f.toNat < c.numFrames then .ok (m.writeBlock (frameBase f) d) else .error (.noSuchAddress (frameBase f))

/-! ## The backing store -/

/-- The byte `B` holds at an offset: the listed one, else an open value (R16). -/
def storeRead (store : Memory) (off : Nat) : Byte :=
  match store.read off with
  | some b => b
  | none => Config.storeByte off

/-- The 256 bytes of a page of the backing store, in order (R16, R63, R68). -/
def storePage (store : Memory) (p : Page) : List Byte :=
  (List.range pageSize).map (fun i => storeRead store (storeBase p + i))

/-- `BsReadPage(p)` (R206): a page beyond the store always fails with `UNREACHABLE_OFFSET` (R192); for the others the
environment draws the outcome (R17), and a good answer holds exactly the store's bytes. -/
def bsReadPage (c : Params) (store : Memory) (a : ReaderAnswer) (p : Page) : Except FailKind (List Byte) :=
  if c.bsPages ≤ p.toNat then .error .unreachableOffset
  else
    match a with
    | .ok => .ok (storePage store p)
    | .err k => .error k

/-! ## The TLB (R21) -/

/-- The oldest-first scan of R111: the frame of the first entry for the page. -/
def tlbFind (tlb : List Entry) (p : Page) : Option Frame :=
  match tlb with
  | [] => none
  | e :: rest => if e.page = p then some e.frame else tlbFind rest p

/-- Slot `i` of the hardware form: the `i`-th oldest entry, or no architectural value (R21). -/
def tlbSlot (tlb : List Entry) (i : Nat) : Option Entry := tlb[i]?

/-- `tlb_count` (R21). -/
def tlbCount (tlb : List Entry) : Nat := tlb.length

/-- The comparator of slot `i` (R117): it is qualified by `i < tlb_count`. -/
def tlbMatch (tlb : List Entry) (p : Page) (i : Nat) : Bool :=
  match tlbSlot tlb i with
  | some e => decide (e.page = p)
  | none => false

/-- The hardware form of the lookup (R117): one comparator per slot, the lowest matching slot has priority. -/
def tlbFindParallel (size : Nat) (tlb : List Entry) (p : Page) : Option Frame :=
  match (List.range size).find? (tlbMatch tlb p) with
  | some i => (tlbSlot tlb i).map Entry.frame
  | none => none

/-- TLB.INSERT on the sequence (R112): at capacity the oldest entry goes, then the new one is appended. -/
def tlbPush (size : Nat) (tlb : List Entry) (p : Page) (f : Frame) : List Entry :=
  (if tlb.length = size then tlb.tail else tlb) ++ [Entry.mk p f]

/-- TLB.INVAL on the sequence (R113): the entries for the page go, the others keep their order. -/
def tlbRemove (tlb : List Entry) (v : Page) : List Entry := tlb.filter (fun e => decide (e.page ≠ v))

/-! ## The page table, the replacement queue and the allocation counter (R23 to R26) -/

/-- `pt[p]` (R131). Every page number indexes a slot. -/
def ptGet (pt : PageTable) (p : Page) : Option Frame := pt[p.toNat]'p.isLt

/-- `pt[p] <- v`. -/
def ptSet (pt : PageTable) (p : Page) (v : Option Frame) : PageTable := pt.set p.toNat v p.isLt

/-- What PT.ALLOC leaves: the three structures, the frame it returns and the page it evicted (R132). -/
structure Allocation where
  pt : PageTable
  rq : List Entry
  allocCount : Nat
  frame : Frame
  evicted : Option Page
  deriving DecidableEq, Repr

/-- PT.ALLOC on the three structures (R132): the free-frame path (R134), else the eviction path (R135). The
precondition of R133 is checked, as U3 asks of a model: a resident page is refused (log entry 12). -/
def ptAllocate (c : Params) (pt : PageTable) (rq : List Entry) (count : Nat) (p : Page) : Except Refusal Allocation :=
  if (ptGet pt p).isSome then .error (.allocOnResidentPage p)
  else if count < c.numFrames then
    .ok { pt := ptSet pt p (some (BitVec.ofNat 8 count)), rq := rq ++ [Entry.mk p (BitVec.ofNat 8 count)],
          allocCount := count + 1, frame := BitVec.ofNat 8 count, evicted := none }
  else
    match rq with
    | [] => .error .emptyReplacementQueue
    | victim :: rest =>
      .ok { pt := ptSet (ptSet pt victim.page none) p (some victim.frame), rq := rest ++ [Entry.mk p victim.frame],
            allocCount := count, frame := victim.frame, evicted := some victim.page }

/-! ## Transaction registers -/

/-- `phase <- X` (R13, R44). -/
def State.goto (s : State) (p : Phase) : State := { s with phase := p }

/-- A request is accepted (R92): `req_vaddr <- req_vaddr_in`, `phase <- SPLIT`, and the request leaves the request port. -/
def State.accept (s : State) (va : Vaddr) : State :=
  { s with reqVaddr := va, phase := .split, requests := s.requests.tail }

/-- VA.SPLIT on the registers (R151). -/
def State.splitVa (s : State) : State :=
  { s with curPage := pageOf s.reqVaddr, curOffset := offsetOf s.reqVaddr }

/-- The registers of a TLB hit on frame `f` (R111). -/
def State.onTlbHit (s : State) (f : Frame) : State := { s.flagTlbHit with curFrame := f }

/-- The registers of a page-table hit on frame `f` (R131). -/
def State.onPtHit (s : State) (f : Frame) : State := { s.flagPageFault false with curFrame := f }

/-- What PT.ALLOC writes (R132): the three structures, `cur_frame`, `evict_valid`, and `evict_page` when a page was
evicted. -/
def State.withAllocation (s : State) (a : Allocation) : State :=
  { s with
    pt := a.pt, rq := a.rq, allocCount := a.allocCount, curFrame := a.frame,
    evictValid := a.evicted.isSome, evictPage := a.evicted.getD s.evictPage }

/-- PT.ALLOC of `cur_page` on the machine. -/
def State.allocate (s : State) : Except Refusal State :=
  match ptAllocate s.params s.pt s.rq s.allocCount s.curPage with
  | .error r => .error r
  | .ok a => .ok (s.withAllocation a)

/-- Whether TLB.INVAL follows PT.ALLOC: `STALE_TLB_POLICY = INVALIDATE` and `evict_valid = 1` (R163). -/
def State.mustInvalidate (s : State) : Bool := s.params.policy == .invalidate && s.evictValid

/-- TLB.INVAL of `evict_page` on the machine (R113). -/
def State.invalidateTlb (s : State) : State := { s with tlb := tlbRemove s.tlb s.evictPage }

/-- TLB.INSERT of (`cur_page`, `cur_frame`) on the machine (R112). -/
def State.insertTlb (s : State) : State := { s with tlb := tlbPush s.params.tlbSize s.tlb s.curPage s.curFrame }

/-- PA.COMBINE on the registers (R156). -/
def State.combinePa (s : State) : State := { s with resPaddr := combine s.curFrame s.curOffset }

/-- `res_value <- b`. -/
def State.withValue (s : State) (b : Byte) : State := { s with resValue := b }

/-- MEM.READ on the registers (R158). -/
def State.readByte (s : State) : Except Fault State :=
  match memRead s.params s.mem s.resPaddr.toNat with
  | .error e => .error e
  | .ok b => .ok (s.withValue b)

/-- The transaction and result registers lose their architectural value (R30, R31, R200 (f)): each then holds bits
that nothing constrains. -/
def State.loseTransaction (s : State) : State :=
  { s with
    reqVaddr := Config.lostBits s.losses 0
    curPage := (Config.lostBits s.losses 1).setWidth 8
    curOffset := (Config.lostBits s.losses 2).setWidth 8
    curFrame := (Config.lostBits s.losses 3).setWidth 8
    evictValid := (Config.lostBits s.losses 4).getLsbD 0
    evictPage := (Config.lostBits s.losses 5).setWidth 8
    resPaddr := Config.lostBits s.losses 6
    resValue := (Config.lostBits s.losses 7).setWidth 8
    resTlbHit := (Config.lostBits s.losses 8).getLsbD 0
    resPageFault := (Config.lostBits s.losses 9).getLsbD 0
    losses := s.losses + 1 }

/-- The result is delivered (R95): the driver takes the record, `phase <- IDLE`. -/
def State.deliver (s : State) : State :=
  State.loseTransaction { s with delivered := s.delivered ++ [s.result], phase := .idle }

/-- RESPOND (R164): the result stands on the response port, and is delivered once `resp_ready = 1`. -/
def State.respond (s : State) : State := if s.respReady then s.deliver else s.goto .resp

/-! ## The exception and the reset -/

/-- Taking `BackingStoreFault(k, p)`, the one exception (R190, R199): the cause and the page are recorded and the
phase becomes `HALT`. Nothing that PT.ALLOC or TLB.INVAL did is undone (R200 (a), (b)). The frame that was being
filled keeps no architectural value (R200 (d), U5; log entry 11), nor do the transaction registers (R200 (f); log entry 7). -/
def State.takeBackingStoreFault (s : State) (k : FailKind) (p : Page) : State :=
  State.loseTransaction
    { s with
      errCause := causeOf k, errPage := p, phase := .halt
      mem := s.mem.erase (frameBase s.curFrame) pageSize }

/-- RESET, the only way out of the halted state (R201, R220, R221): every element of the state of R20 takes its value
of `State.reset` (log entry 6). The parameters and the store stay (R220, R232), and so does what belongs to the driver and the
reader: the levels they hold, the requests not yet accepted, the results already taken. -/
def State.afterReset (s : State) : State :=
  { State.reset with
    params := s.params, level := s.level, store := s.store, resetPin := s.resetPin, requests := s.requests
    respReady := s.respReady, answers := s.answers, delivered := s.delivered, losses := s.losses }

/-! ## The fill -/

/-- How one attempt at BS.FILL ends. -/
inductive FillOutcome where
  /-- The reader has not answered: `FILL` lasts until it does (R163). -/
  | waiting
  /-- The page is in the frame (R157). -/
  | filled (s : State)
  /-- The read failed and the exception was taken (R190, R199). -/
  | failed (s : State)
  /-- There is no such frame (R62). -/
  | noFrame (r : Fault)

/-- The reader's answer to the read is used up: it answers each request at most once (R206 (d)). -/
def State.useAnswer (s : State) : State := { s with answers := s.answers.tail }

/-- The physical memory after a fill. -/
def State.withMem (s : State) (m : Memory) : State := { s with mem := m }

/-- BS.FILL of (`cur_page`, `cur_frame`) on the machine (R157): one read, one answer used up, and the whole frame
written or the exception taken. -/
def State.fill (s : State) : FillOutcome :=
  match s.answers with
  | [] => .waiting
  | a :: _ =>
    match bsReadPage s.params s.store a s.curPage with
    | .error k => .failed (s.useAnswer.takeBackingStoreFault k s.curPage)
    | .ok d =>
      match memWriteFrame s.params s.mem s.curFrame d with
      | .error r => .noFrame r
      | .ok m => .filled (s.useAnswer.withMem m)

/-! ## Selecting the next operation -/

/-- The word that selects the next operation: the reset pin first (R198), then the phase code, and in `IDLE` the
request on the request port. -/
def fetchWord (s : State) : Option PortWord :=
  if s.resetPin then some (.pin 1#1)
  else if s.phase = .idle then
    match s.requests with
    | [] => none
    | va :: _ => some (.req16 va)
  else some (.seq4 (phaseCode s.phase))

/-- The next operation, or none where the machine only waits: in `IDLE` with no request, and in `HALT`. -/
def fetch (s : State) : Option Instr :=
  match fetchWord s with
  | none => none
  | some w =>
    match decode w with
    | .ok i => some i
    | .error _ => none

/-- Whether this step only accepts a request, as the phase level does (R14, R92). -/
def State.acceptsOnly (s : State) : Bool :=
  s.level == .phase && s.reqReady && s.reqValid

/-- The request on the request port; zero where there is none. -/
def State.headRequest (s : State) : Vaddr := s.requests.headD 0

/-- The state with a word where the next step selects its operation. A word of the request port stands first among the
requests and is run as a whole transaction. Since such a step happens only if the reader's answer arrives (U10), a
good answer is put at hand where there is none (log entry 18). -/
def State.withPortWord (s : State) (w : PortWord) : State :=
  match w with
  | .pin l => { s with resetPin := decide (l = 1#1) }
  | .seq4 c =>
    match phaseOfCode c with
    | some p => { s with resetPin := false, phase := p }
    | none => s
  | .req16 va =>
    { s with
      resetPin := false, phase := .idle, level := .transaction, requests := va :: s.requests
      answers := if s.answers.isEmpty then [.ok] else s.answers }

end Sys2Proof.Machine
end

