-- ==== Sys2Proof/Machine/PageTables.lean ====
section
/-! DEFINITION. The page-table family (41_page_table.md): PT.LOOKUP and PT.ALLOC as the sequencer performs them, each with
the successor phase of 42_translate.md rule R163. -/

namespace Sys2Proof.Machine

/-- PT.LOOKUP `cur_page` (R131; phase `PTL` of R163). -/
def execPtLookup (s : State) : Host.Outcome State Fault Refusal :=
  match ptGet s.pt s.curPage with
  | some f => .next ((s.onPtHit f).goto .tlbi)
  | none => .next ((s.flagPageFault true).goto .alloc)

/-- PT.ALLOC `cur_page` (R132; phase `ALLOC` of R163). -/
def execPtAlloc (s : State) : Host.Outcome State Fault Refusal :=
  match s.allocate with
  | .error r => .refused r
  | .ok t => .next (t.goto (if t.mustInvalidate then .inval else .fill))

end Sys2Proof.Machine
end

