-- ==== Sys2Proof/Machine/Reset.lean ====
section
/-! DEFINITION. The system operation RESET (70_reset_and_hazards.md rules R220 to R222). -/

namespace Sys2Proof.Machine

/-- RESET (R220), in any phase (R222). -/
def execReset (s : State) : Host.Outcome State Fault Refusal := .next s.afterReset

end Sys2Proof.Machine
end

