-- ==== Sys2Proof/Machine/Tlb.lean ====
section
/-! DEFINITION. The TLB family (40_tlb.md): TLB.LOOKUP, TLB.INSERT and TLB.INVAL as the sequencer performs them, each
with the successor phase of 42_translate.md rule R163. -/

namespace Sys2Proof.Machine

/-- TLB.LOOKUP `cur_page` (R111; phase `TLBL` of R163). -/
def execTlbLookup (s : State) : Host.Outcome State Fault Refusal :=
  match tlbFind s.tlb s.curPage with
  | some f => .next ((s.onTlbHit f).goto .comb)
  | none => .next (s.flagTlbMiss.goto .ptl)

/-- TLB.INSERT `cur_page`, `cur_frame` (R112; phase `TLBI` of R163). It does not check that the page is absent. -/
def execTlbInsert (s : State) : Host.Outcome State Fault Refusal :=
  .next (s.insertTlb.goto .comb)

/-- TLB.INVAL `evict_page` (R113; phase `INVAL` of R163). -/
def execTlbInval (s : State) : Host.Outcome State Fault Refusal :=
  .next (s.invalidateTlb.goto .fill)

end Sys2Proof.Machine
end

