-- ==== Sys2Proof/Machine/Translate.lean ====
section
/-! DEFINITION. The translator family (42_translate.md): VA.SPLIT, BS.FILL, PA.COMBINE, MEM.READ and RESPOND as the
sequencer performs them (rule R163), and the whole TRANSLATE transaction (rule R161). -/

namespace Sys2Proof.Machine

/-- VA.SPLIT (R151; phase `SPLIT` of R163). -/
def execVaSplit (s : State) : Host.Outcome State Fault Refusal :=
  .next (s.splitVa.goto .tlbl)

/-- BS.FILL `cur_page`, `cur_frame` (R157; phase `FILL` of R163). While the reader has not answered the phase lasts. -/
def execBsFill (s : State) : Host.Outcome State Fault Refusal :=
  match s.fill with
  | .waiting => .next (s.goto .fill)
  | .failed t => .next t
  | .noFrame r => .fault r
  | .filled t => .next (t.goto .tlbi)

/-- PA.COMBINE `cur_frame`, `cur_offset` (R156; phase `COMB` of R163). -/
def execPaCombine (s : State) : Host.Outcome State Fault Refusal :=
  .next (s.combinePa.goto .read)

/-- MEM.READ `res_paddr` (R158; phase `READ` of R163). -/
def execMemRead (s : State) : Host.Outcome State Fault Refusal :=
  match s.readByte with
  | .error r => .fault r
  | .ok t => .next (t.goto .resp)

/-- RESPOND (R164; phase `RESP` of R163). While `resp_ready = 0` the phase lasts. -/
def execRespond (s : State) : Host.Outcome State Fault Refusal := .next s.respond

/-- The end of every completed transaction (R161): the physical address, the byte, the result. -/
def translateFinish (s : State) : Host.Outcome State Fault Refusal :=
  match s.combinePa.readByte with
  | .error r => .fault r
  | .ok t => .next t.respond

/-- The page-fault path of R161 from BS.FILL on, in a transaction that began in the state `before`. A transaction is one
atomic step that happens only if the reader's answer arrives (R14, U10): while it has not, `before` stands, with the
request still on its port. -/
def translateFill (before s : State) : Host.Outcome State Fault Refusal :=
  match s.fill with
  | .waiting => .next before
  | .failed t => .next t
  | .noFrame r => .fault r
  | .filled t => translateFinish t.insertTlb

/-- Step 4 of R161: both lookups missed. -/
def translateFault (before s : State) : Host.Outcome State Fault Refusal :=
  match s.allocate with
  | .error r => .refused r
  | .ok t => translateFill before (if t.mustInvalidate then t.invalidateTlb else t)

/-- Steps 3 and 4 of R161: the TLB missed. -/
def translateMiss (before s : State) : Host.Outcome State Fault Refusal :=
  match ptGet s.pt s.curPage with
  | some f => translateFinish (s.onPtHit f).insertTlb
  | none => translateFault before (s.flagPageFault true)

/-- The transaction of R161 on an accepted request. -/
def translateAccepted (before s : State) : Host.Outcome State Fault Refusal :=
  match tlbFind s.splitVa.tlb s.splitVa.curPage with
  | some f => translateFinish (s.splitVa.onTlbHit f)
  | none => translateMiss before s.splitVa.flagTlbMiss

/-- TRANSLATE `va`, the request on the port (R161): one atomic step to a result or to the halted state (R14). A request that
is presented while the phase is not `IDLE` is not accepted and has no effect (R92, R201; log entry 10). Where a page
fault finds no answer of the reader, the transaction has not happened (U10; log entry 9). Where the driver is not
ready, the result stands on the response port in `RESP` until it is (R95; log entry 2). -/
def execTranslate (va : Vaddr) (s : State) : Host.Outcome State Fault Refusal :=
  if s.phase = .idle then translateAccepted s (s.accept va) else .next s

end Sys2Proof.Machine
end

