-- ==== Sys2Proof/Machine/Dispatch.lean ====
section
/-! DEFINITION. Every operation of 30_encoding.md rule R90 with its meaning. -/

namespace Sys2Proof.Machine

def exec (i : Instr) (s : State) : Host.Outcome State Fault Refusal :=
  match i with
  | .translate va => Sys2Proof.Machine.execTranslate va s
  | .vaSplit => Sys2Proof.Machine.execVaSplit s
  | .tlbLookup => Sys2Proof.Machine.execTlbLookup s
  | .ptLookup => Sys2Proof.Machine.execPtLookup s
  | .ptAlloc => Sys2Proof.Machine.execPtAlloc s
  | .tlbInval => Sys2Proof.Machine.execTlbInval s
  | .bsFill => Sys2Proof.Machine.execBsFill s
  | .tlbInsert => Sys2Proof.Machine.execTlbInsert s
  | .paCombine => Sys2Proof.Machine.execPaCombine s
  | .memRead => Sys2Proof.Machine.execMemRead s
  | .respond => Sys2Proof.Machine.execRespond s
  | .reset => Sys2Proof.Machine.execReset s

end Sys2Proof.Machine
end

