-- ==== Sys2Proof/Machine/Step.lean ====
section
/-! DEFINITION. One step of the machine (00_scope.md rule R14): a whole transaction, or one phase of the sequencer. -/

namespace Sys2Proof.Machine

/-- One step. Parameters outside their ranges are refused (U13). At the phase level a request on the port is only
accepted (R92). Else the selected operation runs; where none is selected, in `IDLE` without a request and in `HALT`,
nothing changes (R163). -/
def step (s : State) : Host.Outcome State Fault Refusal :=
  if s.params.wf then
    if s.acceptsOnly then .next (s.accept s.headRequest)
    else
      match fetch s with
      | none => .next s
      | some i => exec i s
  else .refused .illegalParameters

/-- The state with an opcode-table word of `nbits` bits where the next step selects its operation (log entry 18). -/
def State.withFetchWord (s : State) (nbits w : Nat) : State :=
  match tableWord nbits w with
  | some pw => s.withPortWord pw
  | none => s

end Sys2Proof.Machine
end

