-- ==== Sys2Proof/Safety.lean ====
section
/-! DEFINITION. What holds of the VMTE between its steps: the invariants of 10_state.md rules R50 to R57, one predicate a
rule, what the phases of a transaction rely on (42_translate.md rule R163), the atomicity of a transaction (00_scope.md
rule R14), and the states a run can reach. -/

namespace Sys2Proof.Machine

/-- R50: the TLB never holds more than `TLB_SIZE` entries. -/
def State.TlbWithinCapacity (s : State) : Prop := s.tlb.length ≤ s.params.tlbSize

/-- R51: no two entries of the TLB have the same page. -/
def State.TlbPagesDistinct (s : State) : Prop := (s.tlb.map Entry.page).Nodup

/-- R52: `len(rq) = alloc_count <= NUM_FRAMES`. -/
def State.QueueCounted (s : State) : Prop :=
  s.rq.length = s.allocCount ∧ s.allocCount ≤ s.params.numFrames

/-- R53: `pt[p] = Some(f)` if and only if the pair (p, f) is in `rq`. -/
def State.TableAgreesWithQueue (s : State) : Prop :=
  ∀ (p : Page) (f : Frame), ptGet s.pt p = some f ↔ Entry.mk p f ∈ s.rq

/-- R54: the frames of the pairs in `rq` are pairwise distinct, and so are the pages. -/
def State.QueueDistinct (s : State) : Prop :=
  (s.rq.map Entry.frame).Nodup ∧ (s.rq.map Entry.page).Nodup

/-- R55: frames are handed out round-robin. While `alloc_count < NUM_FRAMES` the pair at index `i` has frame `i`; once
`alloc_count = NUM_FRAMES` it has the front's frame plus `i`, modulo `NUM_FRAMES`. -/
def State.RoundRobin (s : State) : Prop :=
  (s.allocCount < s.params.numFrames → ∀ (i : Nat) (e : Entry), s.rq[i]? = some e → e.frame.toNat = i) ∧
  (s.allocCount = s.params.numFrames → ∀ (front : Entry), s.rq[0]? = some front → front.frame.toNat < s.params.numFrames ∧
    ∀ (i : Nat) (e : Entry), s.rq[i]? = some e → e.frame.toNat = (front.frame.toNat + i) % s.params.numFrames)

/-- Frame `f` holds the bytes of page `p`: `mem[f×256 + o] = B[p×256 + o]` for every offset (R56). -/
def State.Holds (s : State) (e : Entry) : Prop :=
  ∀ o : Nat, o < pageSize → s.mem.read (frameBase e.frame + o) = some (storeRead s.store (storeBase e.page + o))

/-- The pairs whose frames hold their pages: all of `rq`, but for the pair at its back while that pair's fill is still
to come (phases `INVAL` and `FILL`) and in the halted state (R56, R200 (e)). -/
def State.filledPairs (s : State) : List Entry :=
  if s.phase = .inval ∨ s.phase = .fill ∨ s.phase = .halt then s.rq.dropLast else s.rq

/-- R56: resident frames hold their page's bytes. -/
def State.ResidentFilled (s : State) : Prop := ∀ e ∈ s.filledPairs, s.Holds e

/-- R57: what a TLB entry can point at. Its frame is below `alloc_count`. Under `PRESERVE` its page is mapped to that
frame or not resident; under `INVALIDATE` it is mapped to that frame, but for the page just evicted, between the
PT.ALLOC that evicted it and the TLB.INVAL that follows. -/
def State.TlbPointsSoundly (s : State) : Prop :=
  ∀ e ∈ s.tlb, e.frame.toNat < s.allocCount ∧
    (ptGet s.pt e.page = some e.frame ∨
      (ptGet s.pt e.page = none ∧
        (s.params.policy = .preserve ∨ (s.phase = .inval ∧ e.page = s.evictPage))))

/-- No TLB entry is for `cur_page`: TLB.LOOKUP missed in this transaction (R112, R233). -/
def State.Missed (s : State) : Prop := ∀ e ∈ s.tlb, e.page ≠ s.curPage

/-- `cur_page` and `cur_offset` are the fields of `req_vaddr` (R30). -/
def State.Split (s : State) : Prop := s.curPage = pageOf s.reqVaddr ∧ s.curOffset = offsetOf s.reqVaddr

/-- The TLB serves `cur_page` with `cur_frame` (R171), and not both result flags are 1 (R162). -/
def State.Served (s : State) : Prop :=
  Entry.mk s.curPage s.curFrame ∈ s.tlb ∧ ¬(s.resTlbHit = true ∧ s.resPageFault = true)

/-- The pair (`cur_page`, `cur_frame`) is at the back of `rq`: PT.ALLOC has just put it there (R132). -/
def State.JustAllocated (s : State) : Prop := s.rq.getLast? = some (Entry.mk s.curPage s.curFrame)

/-- What each phase relies on about the transaction registers, from the walk of R163. -/
def State.PhaseOk (s : State) : Prop :=
  match s.phase with
  | .idle => True
  | .split => True
  | .tlbl => s.Split
  | .ptl => s.Split ∧ s.Missed ∧ s.resTlbHit = false
  | .alloc => s.Split ∧ s.Missed ∧ s.resTlbHit = false ∧ s.resPageFault = true ∧ ptGet s.pt s.curPage = none
  | .inval =>
    s.Split ∧ s.Missed ∧ s.resTlbHit = false ∧ s.resPageFault = true ∧ s.JustAllocated ∧
      s.params.policy = .invalidate ∧ s.evictValid = true ∧ ptGet s.pt s.evictPage = none
  | .fill => s.Split ∧ s.Missed ∧ s.resTlbHit = false ∧ s.resPageFault = true ∧ s.JustAllocated
  | .tlbi => s.Split ∧ s.Missed ∧ s.resTlbHit = false ∧ ptGet s.pt s.curPage = some s.curFrame
  | .comb => s.Split ∧ s.Served
  | .read => s.Split ∧ s.Served ∧ s.resPaddr = combine s.curFrame s.curOffset
  | .resp =>
    s.Split ∧ s.Served ∧ s.resPaddr = combine s.curFrame s.curOffset ∧
      s.mem.read s.resPaddr.toNat = some s.resValue
  | .halt => True

/-- R41 and R45: `err_cause` is 0 exactly when the machine has not halted. -/
def State.CauseAgreesWithHalt (s : State) : Prop := s.errCause = .none ↔ s.phase ≠ .halt

/-- The memory keeps its canonical form, and no byte is listed at or beyond `MEM_BYTES` (R27). -/
def State.MemoryOk (s : State) : Prop :=
  Memory.wf s.mem ∧ ∀ c ∈ s.mem, c.1 < s.params.memBytes

/-- R14: at the transaction level no transaction is ever found part of the way: the machine waits for a request, has a
result for the driver to take, or has halted. -/
def State.TransactionsWhole (s : State) : Prop :=
  s.level = .transaction → s.phase = .idle ∨ s.phase = .resp ∨ s.phase = .halt

/-- The invariant of the machine: the rules R50 to R57, the canonical memory, what the phases rely on, and the
atomicity of R14. It says nothing of the inputs, which the environment may set as it likes. -/
structure State.Inv (s : State) : Prop where
  paramsWf : s.params.wf = true
  memoryOk : s.MemoryOk
  tlbWithinCapacity : s.TlbWithinCapacity
  tlbPagesDistinct : s.TlbPagesDistinct
  queueCounted : s.QueueCounted
  tableAgreesWithQueue : s.TableAgreesWithQueue
  queueDistinct : s.QueueDistinct
  roundRobin : s.RoundRobin
  residentFilled : s.ResidentFilled
  tlbPointsSoundly : s.TlbPointsSoundly
  phaseOk : s.PhaseOk
  causeAgreesWithHalt : s.CauseAgreesWithHalt
  transactionsWhole : s.TransactionsWhole

/-- The machine right after power-up with given parameters, store and level (R220, R221, R223). -/
def State.powerUp (c : Params) (store : Memory) (level : Level) : State :=
  { State.reset with params := c, store := store, level := level }

/-- What the environment may do between two steps: set the reset pin, the requests, `resp_ready` and what the reader
answers (R204). -/
def State.withInputs (s : State) (resetPin : Bool) (requests : List Vaddr) (respReady : Bool)
    (answers : List ReaderAnswer) : State :=
  { s with resetPin := resetPin, requests := requests, respReady := respReady, answers := answers }

/-- The states a run can reach: from power-up with legal parameters, by steps, with the environment free to set the
inputs between them. -/
inductive Reachable : State → Prop where
  | powerUp (c : Params) (store : Memory) (level : Level) (legal : c.wf = true) :
      Reachable (State.powerUp c store level)
  | inputs (s : State) (resetPin : Bool) (requests : List Vaddr) (respReady : Bool) (answers : List ReaderAnswer) :
      Reachable s → Reachable (s.withInputs resetPin requests respReady answers)
  | step (s t : State) : Reachable s → Machine.step s = .next t → Reachable t

/-- The outcome with its state's level set: to compare the two levels of R14. -/
def atLevel (l : Level) : Host.Outcome State Fault Refusal → Host.Outcome State Fault Refusal
  | .next s => .next { s with level := l }
  | .fault r => .fault r
  | .refused r => .refused r

/-- The page now mapped to a frame, if any: the page of the queue's pair with that frame (R177). -/
def State.ownerOf (s : State) (f : Frame) : Option Page :=
  (s.rq.find? (fun e => decide (e.frame = f))).map Entry.page

/-- What a transaction from `s` to `t` leaves as it was unless it halts the machine: the run's constants, the inputs other than
the reader's answers, and the error registers. The accepted request has left the request port (R92). -/
def State.SameSurroundings (s t : State) : Prop :=
  t.params = s.params ∧ t.level = s.level ∧ t.store = s.store ∧ t.resetPin = s.resetPin ∧
    t.requests = s.requests.tail ∧ t.respReady = s.respReady ∧ t.errCause = s.errCause ∧ t.errPage = s.errPage

/-- Every byte of physical memory outside frame `f` reads as before (R67, R200 (d)). -/
def SameOutsideFrame (f : Frame) (m m' : Memory) : Prop :=
  ∀ a : Nat, (a < frameBase f ∨ frameBase f + pageSize ≤ a) → m'.read a = m.read a

/-- The exception of a failed read of page `p` into frame `f` stands in `t`, from `s` (R199, R200): the machine has halted
with the kind and the page recorded, delivers nothing, has used up the answer it acted on (log entry 9), holds no value
in the frame (R200 (d), log entry 11) and every other byte as before; the constants stay, and the inputs but the
request port. -/
def State.HaltedOn (s t : State) (k : FailKind) (p : Page) (f : Frame) (rest : List ReaderAnswer) : Prop :=
  t.phase = .halt ∧ t.halted = true ∧ t.busy = false ∧ t.errCause = causeOf k ∧ t.errPage = p ∧
    t.answers = rest ∧ t.delivered = s.delivered ∧ t.params = s.params ∧ t.level = s.level ∧ t.store = s.store ∧
    t.resetPin = s.resetPin ∧ t.respReady = s.respReady ∧
    (∀ o : Nat, o < pageSize → t.mem.read (frameBase f + o) = none) ∧ SameOutsideFrame f s.mem t.mem

/-- The read of page `p` fails with kind `k` under the draw `answer`: a page beyond the store always as
`UNREACHABLE_OFFSET` (R192), another page as the environment draws (R17, R191). -/
def State.ReadFails (s : State) (answer : ReaderAnswer) (p : Page) (k : FailKind) : Prop :=
  (s.params.bsPages ≤ p.toNat ∧ k = .unreachableOffset) ∨ (p.toNat < s.params.bsPages ∧ answer = .err k)

/-- A TRANSLATE of `va` is a page fault that comes to the read of its page (R161): both lookups miss, and PT.ALLOC has a frame
never used or a front of the queue to take one from. -/
def State.AsksTheReader (s : State) (va : Vaddr) : Prop :=
  tlbFind s.tlb (pageOf va) = none ∧ ptGet s.pt (pageOf va) = none ∧
    (s.allocCount < s.params.numFrames ∨ s.rq ≠ [])

/-- The result `r` of a transaction that began in `s` stands in `t` (R95): taken by the driver where it is ready, with the
machine back in `IDLE`, and else on the response port in `RESP`. -/
def State.Answered (s t : State) (r : Result) : Prop :=
  (s.respReady = true → t.delivered = s.delivered ++ [r] ∧ t.phase = .idle) ∧
  (s.respReady = false → t.delivered = s.delivered ∧ t.phase = .resp ∧ t.result = r)

/-- PT.ALLOCs of a list of pages, one after the other (R137). -/
def allocateAll (c : Params) : List Page → Allocation → Except Refusal Allocation
  | [], a => .ok a
  | p :: ps, a =>
    match ptAllocate c a.pt a.rq a.allocCount p with
    | .error r => .error r
    | .ok b => allocateAll c ps b

/-- The page table, the queue and the counter right after reset (R48). -/
def noAllocation : Allocation :=
  { pt := State.reset.pt, rq := State.reset.rq, allocCount := State.reset.allocCount, frame := 0, evicted := none }

end Sys2Proof.Machine
end

