-- ==== Sys2Proof/Certificates/Slice0/Obligations.lean ====
section
/-! DEFINITION. The statements about the machine, from the numbered rules of spec/. -/

open Sys2Proof Sys2Proof.Machine

/-! ## Encodings -/

/-- R91, R100, R220: decoding and encoding agree at every place, in both directions. -/
def Obligations.DecodeAndEncodeAgree : Prop :=
  (∀ i : Instr, i.wellFormed = true → decode (encode i) = .ok i) ∧
  (∀ (w : PortWord) (i : Instr), decode w = .ok i → encode i = w)

/-- R100: the phase codes and the micro-operation each phase performs; a code selects an operation exactly when it is 1 to
10. R102: the codes of `IDLE` and `HALT` and the unused codes 11 to 14 are rejected by name. -/
def Obligations.PhaseCodesSelectTheirMicroOperation : Prop :=
  (∀ c : BitVec 4, (∃ i, decode (.seq4 c) = .ok i) ↔ 1 ≤ c.toNat ∧ c.toNat ≤ 10) ∧
  (∀ c : BitVec 4, 11 ≤ c.toNat → c.toNat ≤ 14 → decode (.seq4 c) = .error (.unusedPhase c) ∧ phaseOfCode c = none) ∧
  (∀ (c : BitVec 4) (p : Phase), phaseOfCode c = some p ↔ phaseCode p = c) ∧
  phaseCode .idle = 0#4 ∧ decode (.seq4 0#4) = .error .idlePhase ∧
  phaseCode .split = 1#4 ∧ decode (.seq4 1#4) = .ok .vaSplit ∧
  phaseCode .tlbl = 2#4 ∧ decode (.seq4 2#4) = .ok .tlbLookup ∧
  phaseCode .ptl = 3#4 ∧ decode (.seq4 3#4) = .ok .ptLookup ∧
  phaseCode .alloc = 4#4 ∧ decode (.seq4 4#4) = .ok .ptAlloc ∧
  phaseCode .inval = 5#4 ∧ decode (.seq4 5#4) = .ok .tlbInval ∧
  phaseCode .fill = 6#4 ∧ decode (.seq4 6#4) = .ok .bsFill ∧
  phaseCode .tlbi = 7#4 ∧ decode (.seq4 7#4) = .ok .tlbInsert ∧
  phaseCode .comb = 8#4 ∧ decode (.seq4 8#4) = .ok .paCombine ∧
  phaseCode .read = 9#4 ∧ decode (.seq4 9#4) = .ok .memRead ∧
  phaseCode .resp = 10#4 ∧ decode (.seq4 10#4) = .ok .respond ∧
  phaseCode .halt = 15#4 ∧ decode (.seq4 15#4) = .error .haltPhase

/-- A few words written out from the encodings of R91, R100 and R220. That a word of up to 8 bits is read as a phase code, one of
16 bits as a request and one of 1 bit as the reset pin is the model's choice (DESIGN CHOICE, log entry 14). -/
def Obligations.WrittenOutWordsDecode : Prop :=
  decodeTableWord 16 0b0100001000010100 = some (.translate 16916#16) ∧
  decodeTableWord 16 0b1111010000011101 = some (.translate 62493#16) ∧
  decodeTableWord 8 0b00000010 = some .tlbLookup ∧
  decodeTableWord 8 0b00000100 = some .ptAlloc ∧
  decodeTableWord 8 0b00000110 = some .bsFill ∧
  decodeTableWord 8 0b00001010 = some .respond ∧
  decodeTableWord 1 0b1 = some .reset ∧
  decodeTableWord 8 0b00001011 = none ∧
  decodeTableWord 8 0b00001111 = none

/-- R94: where each field of RESP32 lies. -/
def Obligations.ResponseWordLayout : Prop :=
  ∀ (paddr : Paddr) (value : Byte) (hit fault : Bool),
    (resp32 paddr value hit fault).extractLsb' 0 16 = paddr ∧
    (resp32 paddr value hit fault).extractLsb' 16 8 = value ∧
    (resp32 paddr value hit fault).getLsbD 24 = hit ∧
    (resp32 paddr value hit fault).getLsbD 25 = fault ∧
    (resp32 paddr value hit fault).extractLsb' 26 6 = 0#6

/-- R98, R101: the status outputs, where each field of STATUS16 lies and what it holds, and the cause codes. -/
def Obligations.StatusWordLayout : Prop :=
  ∀ s : State,
    (s.busy = true ↔ s.phase ≠ .idle ∧ s.phase ≠ .halt) ∧ (s.halted = true ↔ s.phase = .halt) ∧ s.fatal = s.halted ∧
    s.status16.extractLsb' 0 8 = (if s.errCause = .none then 0#8 else s.errPage) ∧
    s.status16.extractLsb' 8 2 = causeCode s.errCause ∧
    s.status16.getLsbD 10 = s.halted ∧ s.status16.getLsbD 11 = s.busy ∧
    s.status16.extractLsb' 12 4 = 0#4 ∧
    causeCode .none = 0#2 ∧ causeCode .ioError = 1#2 ∧ causeCode .shortRead = 2#2 ∧ causeCode .unreachableOffset = 3#2

/-- R160, R11: the value is the two's-complement reading of the byte, from -128 to 127. That the reading is two's
complement is PRESUMED in the spec itself (G1) and in log entry 4. -/
def Obligations.SignedByteReading : Prop :=
  ∀ b : Byte, signed8 b = b.toInt ∧ -128 ≤ signed8 b ∧ signed8 b ≤ 127 ∧ BitVec.ofInt 8 (signed8 b) = b

/-- R99: the driver's masking keeps the low 16 bits of its 32-bit integer. -/
def Obligations.DriverMaskKeepsTheLowHalf : Prop :=
  ∀ n : BitVec 32, (maskRequest n).toNat = n.toNat % 65536

/-! ## One step -/

/-- R14, R92, R100, R198: a step runs the operation that is selected. Under reset it is RESET; at the transaction level in
`IDLE` it is the TRANSLATE of the first request on the port; in a phase from `SPLIT` to `RESP` it
is the micro-operation whose code is in the phase register. -/
def Obligations.StepRunsTheSelectedOperation : Prop :=
  ∀ s : State, s.params.wf = true →
    (s.resetPin = true → step s = exec .reset s) ∧
    (s.resetPin = false → s.phase = .idle → s.level = .transaction → ∀ (va : Vaddr) (rest : List Vaddr),
      s.requests = va :: rest → step s = exec (.translate va) s) ∧
    (s.resetPin = false → ∀ i : Instr, decode (.seq4 (phaseCode s.phase)) = .ok i → step s = exec i s)

/-- R92, R163: at the phase level a request is accepted by one step of its own; without a request `IDLE` stays `IDLE`. -/
def Obligations.IdleAcceptsOrWaits : Prop :=
  ∀ s : State, s.params.wf = true → s.resetPin = false → s.phase = .idle →
    (s.requests = [] → step s = .next s) ∧
    (s.level = .phase → ∀ (va : Vaddr) (rest : List Vaddr), s.requests = va :: rest →
      step s = .next { s with requests := rest, reqVaddr := va, phase := .split })

/-- R45, R201: `halted` is 1 exactly in the phase `HALT`, and once 1 it stays 1 until reset, with the state as it is, whatever
is presented and however many steps are made. -/
def Obligations.HaltIsLeftByResetOnly : Prop :=
  ∀ s : State,
    (s.halted = true ↔ s.phase = .halt) ∧
    (s.params.wf = true → s.halted = true → s.resetPin = false → ∀ n : Nat,
      Host.Core.run Sys2Proof.core n s = .next s)

/-- R198, R220, R222: RESET, in any phase, leaves the empty engine: nothing of the transaction in flight is kept and no
result is delivered for it. The parameters, the store and what the driver and the reader hold stay. With the reset pin
high it is what a step does, in any phase. R48 and R221 leave the memory unspecified; that every byte of it reads as none is
the model's choice (DESIGN CHOICE, log entry 8). That the registers without a reset value hold zero is the model's choice
too (log entry 6) and is not said here. -/
def Obligations.ResetInAnyPhaseEmptiesTheEngine : Prop :=
  ∀ s : State, ∃ t : State, exec .reset s = .next t ∧
    (s.params.wf = true → s.resetPin = true → step s = .next t) ∧
    t.tlb = [] ∧ (∀ p : Page, ptGet t.pt p = none) ∧ t.rq = [] ∧ t.allocCount = 0 ∧
    t.phase = .idle ∧ t.errCause = .none ∧ t.halted = false ∧ (∀ a : Nat, t.mem.read a = none) ∧
    t.params = s.params ∧ t.level = s.level ∧ t.store = s.store ∧ t.resetPin = s.resetPin ∧
    t.requests = s.requests ∧ t.respReady = s.respReady ∧ t.answers = s.answers ∧ t.delivered = s.delivered

/-- R48, R221: the state right after reset. These rules leave the memory unspecified; that every byte of it reads as none is the
model's choice (DESIGN CHOICE, log entry 8). -/
def Obligations.ResetStateIsEmpty : Prop :=
  State.reset.tlb = [] ∧ (∀ p : Page, ptGet State.reset.pt p = none) ∧ State.reset.rq = [] ∧
  State.reset.allocCount = 0 ∧ State.reset.phase = .idle ∧ State.reset.halted = false ∧
  State.reset.errCause = .none ∧ (∀ a : Nat, State.reset.mem.read a = none) ∧ State.reset.status16 = 0#16

/-! ## The micro-operations -/

/-- R151: VA.SPLIT, from the phase `SPLIT`. -/
def Obligations.VaSplitGivesPageAndOffset : Prop :=
  ∀ s : State,
    exec .vaSplit s = .next
      { s with
        curPage := (s.reqVaddr >>> 8).setWidth 8, curOffset := (s.reqVaddr &&& 0xFF#16).setWidth 8, phase := .tlbl } ∧
    s.reqVaddr.toNat = (pageOf s.reqVaddr).toNat * 256 + (offsetOf s.reqVaddr).toNat ∧
    encode .vaSplit = .seq4 (phaseCode .split)

/-- R111: TLB.LOOKUP answers the frame of the oldest entry for the page, or misses; the TLB and its order stay. -/
def Obligations.TlbLookupScansOldestFirst : Prop :=
  ∀ s : State,
    (∀ (i : Nat) (e : Entry), s.tlb[i]? = some e → e.page = s.curPage →
      (∀ (j : Nat) (d : Entry), j < i → s.tlb[j]? = some d → d.page ≠ s.curPage) →
      exec .tlbLookup s = .next
        { s with curFrame := e.frame, resTlbHit := true, resPageFault := false, phase := .comb }) ∧
    ((∀ e ∈ s.tlb, e.page ≠ s.curPage) → exec .tlbLookup s = .next { s with resTlbHit := false, phase := .ptl }) ∧
    encode .tlbLookup = .seq4 (phaseCode .tlbl)

/-- R117: one comparator per slot, qualified by the count, with priority to the lowest slot, answers as the scan does; and
where the pages are distinct at most one slot matches. -/
def Obligations.ParallelLookupEqualsTheScan : Prop :=
  ∀ (size : Nat) (tlb : List Entry) (p : Page), tlb.length ≤ size →
    tlbFindParallel size tlb p = tlbFind tlb p ∧
    ((tlb.map Entry.page).Nodup → ∀ i j : Nat, tlbMatch tlb p i = true → tlbMatch tlb p j = true → i = j)

/-- R112: TLB.INSERT, from the phase `TLBI`. -/
def Obligations.TlbInsertAppendsAndEvictsTheOldest : Prop :=
  ∀ s : State,
    (s.tlb.length ≠ s.params.tlbSize →
      exec .tlbInsert s = .next { s with tlb := s.tlb ++ [Entry.mk s.curPage s.curFrame], phase := .comb }) ∧
    (s.tlb.length = s.params.tlbSize → ∀ (oldest : Entry) (rest : List Entry), s.tlb = oldest :: rest →
      exec .tlbInsert s = .next { s with tlb := rest ++ [Entry.mk s.curPage s.curFrame], phase := .comb })

/-- R114: after any insertions the TLB holds the last `TLB_SIZE` of its entries and the inserted ones, in order. -/
def Obligations.TlbKeepsTheYoungestInOrder : Prop :=
  ∀ (size : Nat) (tlb inserted : List Entry), 1 ≤ size → tlb.length ≤ size →
    inserted.foldl (fun l e => tlbPush size l e.page e.frame) tlb =
      (tlb ++ inserted).drop (tlb.length + inserted.length - size)

/-- R114: an entry at index `i` survives exactly `(TLB_SIZE − len(tlb)) + i` further insertions. -/
def Obligations.TlbEntryLifetime : Prop :=
  ∀ (size : Nat) (tlb inserted : List Entry) (i : Nat) (e : Entry), 1 ≤ size → tlb.length ≤ size →
    (tlb.map Entry.page).Nodup → tlb[i]? = some e → (∀ d ∈ inserted, d.page ≠ e.page) →
    (e ∈ inserted.foldl (fun l d => tlbPush size l d.page d.frame) tlb ↔
      inserted.length ≤ (size - tlb.length) + i)

/-- R113: TLB.INVAL removes the entry for the page and keeps the order of the others; exactly one entry goes where the
pages are distinct and the page has one, and none where it has none. -/
def Obligations.TlbInvalRemovesThePage : Prop :=
  ∀ s : State, ∃ t : State,
    exec .tlbInval s = .next t ∧ t = { s with tlb := t.tlb, phase := .fill } ∧ t.tlb.Sublist s.tlb ∧
    (∀ e : Entry, e ∈ t.tlb ↔ e ∈ s.tlb ∧ e.page ≠ s.evictPage) ∧
    ((∀ e ∈ s.tlb, e.page ≠ s.evictPage) → t.tlb = s.tlb) ∧
    ((s.tlb.map Entry.page).Nodup → (∃ e ∈ s.tlb, e.page = s.evictPage) → s.tlb.length = t.tlb.length + 1)

/-- R131: PT.LOOKUP, from the phase `PTL`. -/
def Obligations.PtLookupReadsTheSlot : Prop :=
  ∀ s : State,
    (∀ f : Frame, ptGet s.pt s.curPage = some f →
      exec .ptLookup s = .next { s with curFrame := f, resPageFault := false, phase := .tlbi }) ∧
    (ptGet s.pt s.curPage = none → exec .ptLookup s = .next { s with resPageFault := true, phase := .alloc }) ∧
    encode .ptLookup = .seq4 (phaseCode .ptl)

/-- R132, R134: PT.ALLOC while a frame has never been used. -/
def Obligations.PtAllocTakesTheNextUnusedFrame : Prop :=
  ∀ s : State, ptGet s.pt s.curPage = none → s.allocCount < s.params.numFrames →
    ∃ t : State, exec .ptAlloc s = .next t ∧
      t = { s with
            pt := t.pt, rq := s.rq ++ [Entry.mk s.curPage (BitVec.ofNat 8 s.allocCount)],
            allocCount := s.allocCount + 1, curFrame := BitVec.ofNat 8 s.allocCount, evictValid := false,
            phase := .fill } ∧
      ∀ q : Page, ptGet t.pt q = if q = s.curPage then some (BitVec.ofNat 8 s.allocCount) else ptGet s.pt q

/-- R132, R135: PT.ALLOC once every frame is in use: the oldest resident page goes and its frame is used again. -/
def Obligations.PtAllocReusesTheOldestFrame : Prop :=
  ∀ (s : State) (victim : Entry) (rest : List Entry), ptGet s.pt s.curPage = none →
    s.params.numFrames ≤ s.allocCount → s.rq = victim :: rest →
    ∃ t : State, exec .ptAlloc s = .next t ∧
      t = { s with
            pt := t.pt, rq := rest ++ [Entry.mk s.curPage victim.frame], curFrame := victim.frame,
            evictValid := true, evictPage := victim.page,
            phase := match s.params.policy with
              | .invalidate => .inval
              | .preserve => .fill } ∧
      ∀ q : Page, ptGet t.pt q =
        if q = s.curPage then some victim.frame else if q = victim.page then none else ptGet s.pt q

/-- R133: PT.ALLOC of a resident page has no meaning in the spec, and the model refuses it as U3 asks. -/
def Obligations.PtAllocRefusesAResidentPage : Prop :=
  ∀ (s : State) (f : Frame), ptGet s.pt s.curPage = some f →
    exec .ptAlloc s = .refused (.allocOnResidentPage s.curPage)

/-- R137: the `n`-th PT.ALLOC since reset, from `n = 0`, returns frame `n mod NUM_FRAMES`; for `n >= NUM_FRAMES` it evicts the
page that the `(n − NUM_FRAMES)`-th mapped, and before that none. -/
def Obligations.NthAllocationGetsFrameNModFrames : Prop :=
  ∀ (c : Params) (pages : List Page) (p : Page) (a b : Allocation), c.wf = true →
    allocateAll c pages noAllocation = .ok a → ptAllocate c a.pt a.rq a.allocCount p = .ok b →
    b.frame.toNat = pages.length % c.numFrames ∧
    (pages.length < c.numFrames → b.evicted = none) ∧
    (c.numFrames ≤ pages.length → b.evicted = pages[pages.length - c.numFrames]?)

/-- R157, R67, R68: BS.FILL with a good answer copies the page into the frame, byte for byte, and nothing else. -/
def Obligations.BsFillCopiesThePageIntoTheFrame : Prop :=
  ∀ (s : State) (rest : List ReaderAnswer), s.answers = .ok :: rest → s.curPage.toNat < s.params.bsPages →
    s.curFrame.toNat < s.params.numFrames →
    ∃ t : State, exec .bsFill s = .next t ∧ t = { s with answers := rest, mem := t.mem, phase := .tlbi } ∧
      (∀ o : Nat, o < 256 →
        t.mem.read (s.curFrame.toNat * 256 + o) = some (storeRead s.store (s.curPage.toNat * 256 + o))) ∧
      SameOutsideFrame s.curFrame s.mem t.mem

/-- R190 to R194, R199, R200: BS.FILL with a failing read takes the one exception. A page beyond the store fails with
`UNREACHABLE_OFFSET` whatever the reader's draw is (R192), and another page with the kind reported. The cause and the page
are recorded, the tables and the TLB stay as they are, no result is delivered and no byte outside the frame changes. That
the bytes of the frame read as none is the model's reading of R200 (d) (DEDUCED, log entry 11), and that one answer is
used up is its form of the reader's draw (DESIGN CHOICE, log entry 9). -/
def Obligations.BsFillFailureHaltsTheMachine : Prop :=
  ∀ (s : State) (answer : ReaderAnswer) (rest : List ReaderAnswer) (k : FailKind), s.answers = answer :: rest →
    s.ReadFails answer s.curPage k →
    ∃ t : State, exec .bsFill s = .next t ∧ s.HaltedOn t k s.curPage s.curFrame rest ∧
      t.requests = s.requests ∧ t.tlb = s.tlb ∧ t.pt = s.pt ∧ t.rq = s.rq ∧ t.allocCount = s.allocCount

/-- R163, U10: while the reader has not answered, the machine stays in `FILL`, busy, with its state as it is. -/
def Obligations.FillWaitsForTheReader : Prop :=
  ∀ (s : State) (n : Nat), s.params.wf = true → s.resetPin = false → s.phase = .fill → s.answers = [] →
    Host.Core.run Sys2Proof.core n s = .next s ∧ s.busy = true ∧ s.halted = false ∧ s.bsRequest = some s.curPage

/-- R156, R62: PA.COMBINE gives `f × 256 + o` exactly; for a frame below `NUM_FRAMES` the address is below `MEM_BYTES` and fits
in `PADDR_BITS` bits; the 16-bit sum, the bitwise or and the concatenation of the two fields agree. -/
def Obligations.PaCombineConcatenates : Prop :=
  ∀ s : State, ∃ a : Paddr,
    exec .paCombine s = .next { s with resPaddr := a, phase := .read } ∧
    a.toNat = s.curFrame.toNat * 256 + s.curOffset.toNat ∧
    a = s.curFrame.setWidth 16 * 256#16 + s.curOffset.setWidth 16 ∧
    a = (s.curFrame.setWidth 16 <<< 8) ||| s.curOffset.setWidth 16 ∧
    a = s.curFrame ++ s.curOffset ∧
    a.extractLsb' 0 8 = s.curOffset ∧
    (s.curFrame.toNat < s.params.numFrames →
      a.toNat < s.params.memBytes ∧ a.toNat < 2 ^ s.params.paddrBits) ∧
    encode .paCombine = .seq4 (phaseCode .comb)

/-- R158, R66: MEM.READ reads the byte at the physical address and changes no memory. -/
def Obligations.MemReadReadsTheByte : Prop :=
  ∀ (s : State) (b : Byte), s.resPaddr.toNat < s.params.numFrames * 256 → s.mem.read s.resPaddr.toNat = some b →
    exec .memRead s = .next { s with resValue := b, phase := .resp }

/-- R66, R81: MEM.READ of a byte without value, or beyond the physical memory, stops with a fault: the model's way to
give such a byte no architectural value (log entry 8). -/
def Obligations.MemReadStopsOnAByteWithoutValue : Prop :=
  ∀ s : State,
    (s.resPaddr.toNat < s.params.numFrames * 256 → s.mem.read s.resPaddr.toNat = none →
      exec .memRead s = .fault (.unwrittenByte s.resPaddr.toNat)) ∧
    (s.params.numFrames * 256 ≤ s.resPaddr.toNat → exec .memRead s = .fault (.noSuchAddress s.resPaddr.toNat))

/-- R164, R95, R30, R31: RESPOND with the driver ready delivers the record and goes to `IDLE`; only the transaction and
result registers, which then have no architectural value (log entry 7), change besides. -/
def Obligations.RespondDeliversTheRecord : Prop :=
  ∀ s : State, s.respReady = true →
    ∃ t : State, exec .respond s = .next t ∧
      t = { s with
            phase := .idle, losses := s.losses + 1
            delivered := s.delivered ++ [Result.mk s.resPaddr (signed8 s.resValue) s.resTlbHit s.resPageFault]
            reqVaddr := t.reqVaddr, curPage := t.curPage, curOffset := t.curOffset, curFrame := t.curFrame
            evictValid := t.evictValid, evictPage := t.evictPage, resPaddr := t.resPaddr, resValue := t.resValue
            resTlbHit := t.resTlbHit, resPageFault := t.resPageFault }

/-- R95, R231: RESPOND with the driver not ready stands in `RESP`, the result registers holding their values. -/
def Obligations.RespondHoldsTheRecord : Prop :=
  ∀ (s : State) (n : Nat), s.params.wf = true → s.resetPin = false → s.phase = .resp → s.respReady = false →
    exec .respond s = .next s ∧ Host.Core.run Sys2Proof.core n s = .next s ∧ s.respValid = true ∧ s.busy = true

/-! ## The transaction -/

/-- R161 step 2, R72: a TLB hit. Nothing changes but the transaction registers, and the request leaves its port. -/
def Obligations.TranslateTlbHit : Prop :=
  ∀ (va : Vaddr) (s : State) (f : Frame) (b : Byte), s.phase = .idle → tlbFind s.tlb (pageOf va) = some f →
    f.toNat < s.params.numFrames → s.mem.read (f.toNat * 256 + (offsetOf va).toNat) = some b →
    ∃ t : State, exec (.translate va) s = .next t ∧
      s.Answered t ⟨f ++ offsetOf va, signed8 b, true, false⟩ ∧ s.SameSurroundings t ∧
      t.tlb = s.tlb ∧ t.pt = s.pt ∧ t.rq = s.rq ∧ t.allocCount = s.allocCount ∧ t.mem = s.mem ∧ t.answers = s.answers

/-- R161 step 3: a page-table hit. One TLB.INSERT, and nothing else changes but the transaction registers, and
the request leaves its port. -/
def Obligations.TranslatePageTableHit : Prop :=
  ∀ (va : Vaddr) (s : State) (f : Frame) (b : Byte), s.phase = .idle → tlbFind s.tlb (pageOf va) = none →
    ptGet s.pt (pageOf va) = some f → f.toNat < s.params.numFrames →
    s.mem.read (f.toNat * 256 + (offsetOf va).toNat) = some b →
    ∃ t : State, exec (.translate va) s = .next t ∧
      s.Answered t ⟨f ++ offsetOf va, signed8 b, false, false⟩ ∧ s.SameSurroundings t ∧
      t.tlb = tlbPush s.params.tlbSize s.tlb (pageOf va) f ∧ t.pt = s.pt ∧ t.rq = s.rq ∧
      t.allocCount = s.allocCount ∧ t.mem = s.mem ∧ t.answers = s.answers

/-- R161 step 4 with R134: a page fault while a frame has never been used. The result is the store's byte. -/
def Obligations.TranslateFaultOnAFreeFrame : Prop :=
  ∀ (va : Vaddr) (s : State) (rest : List ReaderAnswer), s.params.wf = true → s.phase = .idle →
    tlbFind s.tlb (pageOf va) = none → ptGet s.pt (pageOf va) = none → s.allocCount < s.params.numFrames →
    s.answers = .ok :: rest → (pageOf va).toNat < s.params.bsPages →
    ∃ t : State, exec (.translate va) s = .next t ∧
      s.Answered t ⟨BitVec.ofNat 8 s.allocCount ++ offsetOf va, signed8 (storeRead s.store va.toNat), false, true⟩ ∧
      s.SameSurroundings t ∧ t.answers = rest ∧
      t.tlb = tlbPush s.params.tlbSize s.tlb (pageOf va) (BitVec.ofNat 8 s.allocCount) ∧
      t.rq = s.rq ++ [Entry.mk (pageOf va) (BitVec.ofNat 8 s.allocCount)] ∧ t.allocCount = s.allocCount + 1 ∧
      (∀ q : Page, ptGet t.pt q = if q = pageOf va then some (BitVec.ofNat 8 s.allocCount) else ptGet s.pt q) ∧
      t.Holds ⟨pageOf va, BitVec.ofNat 8 s.allocCount⟩ ∧ SameOutsideFrame (BitVec.ofNat 8 s.allocCount) s.mem t.mem

/-- R161 step 4 with R135 and R116: a page fault that evicts the oldest resident page. Under `INVALIDATE` the victim's TLB
entry goes before the insertion; under `PRESERVE` it stays. The result is the store's byte. -/
def Obligations.TranslateFaultEvictsTheOldestPage : Prop :=
  ∀ (va : Vaddr) (s : State) (victim : Entry) (rest : List Entry) (answers : List ReaderAnswer), s.phase = .idle →
    tlbFind s.tlb (pageOf va) = none → ptGet s.pt (pageOf va) = none → s.params.numFrames ≤ s.allocCount →
    s.rq = victim :: rest → victim.frame.toNat < s.params.numFrames → s.answers = .ok :: answers →
    (pageOf va).toNat < s.params.bsPages →
    ∃ t : State, exec (.translate va) s = .next t ∧
      s.Answered t ⟨victim.frame ++ offsetOf va, signed8 (storeRead s.store va.toNat), false, true⟩ ∧
      s.SameSurroundings t ∧ t.answers = answers ∧
      (s.params.policy = .preserve → t.tlb = tlbPush s.params.tlbSize s.tlb (pageOf va) victim.frame) ∧
      (s.params.policy = .invalidate →
        t.tlb = tlbPush s.params.tlbSize (tlbRemove s.tlb victim.page) (pageOf va) victim.frame) ∧
      t.rq = rest ++ [Entry.mk (pageOf va) victim.frame] ∧ t.allocCount = s.allocCount ∧
      (∀ q : Page, ptGet t.pt q =
        if q = pageOf va then some victim.frame else if q = victim.page then none else ptGet s.pt q) ∧
      t.Holds ⟨pageOf va, victim.frame⟩ ∧ SameOutsideFrame victim.frame s.mem t.mem

/-- R199, R200: a page fault whose read fails, because the page is beyond the store (R192) or because the reader reports it,
on either path of PT.ALLOC. The machine halts without a result and the TLB has not got the new entry. What PT.ALLOC did
stands: on the free-frame path the new mapping and the count; on the eviction path the front is popped and its page's slot
is absent, and under `INVALIDATE` the TLB.INVAL of that page stands. That the bytes of the frame read as none is the
model's reading of R200 (d) (DEDUCED, log entry 11). -/
def Obligations.TranslateFaultOnAFailingRead : Prop :=
  ∀ (va : Vaddr) (s : State) (answer : ReaderAnswer) (k : FailKind) (rest : List ReaderAnswer), s.phase = .idle →
    tlbFind s.tlb (pageOf va) = none → ptGet s.pt (pageOf va) = none →
    s.answers = answer :: rest → s.ReadFails answer (pageOf va) k →
    (s.allocCount < s.params.numFrames →
      ∃ t : State, exec (.translate va) s = .next t ∧
        s.HaltedOn t k (pageOf va) (BitVec.ofNat 8 s.allocCount) rest ∧
        t.requests = s.requests.tail ∧ t.tlb = s.tlb ∧
        t.rq = s.rq ++ [Entry.mk (pageOf va) (BitVec.ofNat 8 s.allocCount)] ∧ t.allocCount = s.allocCount + 1 ∧
        ∀ q : Page, ptGet t.pt q = if q = pageOf va then some (BitVec.ofNat 8 s.allocCount) else ptGet s.pt q) ∧
    (s.params.numFrames ≤ s.allocCount → ∀ (victim : Entry) (queue : List Entry), s.rq = victim :: queue →
      ∃ t : State, exec (.translate va) s = .next t ∧
        s.HaltedOn t k (pageOf va) victim.frame rest ∧ t.requests = s.requests.tail ∧
        (s.params.policy = .preserve → t.tlb = s.tlb) ∧
        (s.params.policy = .invalidate → t.tlb = tlbRemove s.tlb victim.page) ∧
        t.rq = queue ++ [Entry.mk (pageOf va) victim.frame] ∧ t.allocCount = s.allocCount ∧
        ∀ q : Page, ptGet t.pt q =
          if q = pageOf va then some victim.frame else if q = victim.page then none else ptGet s.pt q)

/-- R221 (a), R174: the first TRANSLATE after power-up, whatever its address, is a page fault that gets frame 0, where its
page is in the store and the read succeeds. -/
def Obligations.FirstTranslateFaultsOnFrameZero : Prop :=
  ∀ (va : Vaddr) (c : Params) (store : Memory) (level : Level) (requests : List Vaddr) (rest : List ReaderAnswer),
    c.wf = true → (pageOf va).toNat < c.bsPages →
    ∃ t : State,
      exec (.translate va) ((State.powerUp c store level).withInputs false requests true (.ok :: rest)) = .next t ∧
      t.delivered = [⟨0#8 ++ offsetOf va, signed8 (storeRead store va.toNat), false, true⟩] ∧
      t.phase = .idle ∧ t.tlb = [⟨pageOf va, 0#8⟩] ∧ t.rq = [⟨pageOf va, 0#8⟩] ∧ t.allocCount = 1

/-- R92, R201: a request presented while the phase is not `IDLE` is not accepted and changes nothing. -/
def Obligations.TranslateIsAcceptedInIdleOnly : Prop :=
  ∀ (va : Vaddr) (s : State), s.phase ≠ .idle → exec (.translate va) s = .next s

/-- R162: a delivered result is a TLB hit, a page-table hit or a page fault, told by where its page was found, never two at
once, and each changes what the rule's table says. A TLB hit changes none of the structures. A page-table hit makes one
TLB.INSERT. A page fault makes one PT.ALLOC, one TLB.INSERT (after the TLB.INVAL of the evicted page under `INVALIDATE`),
overwrites the one frame with the page, and reads one page. -/
def Obligations.ThreeOutcomesNeverFour : Prop :=
  ∀ (va : Vaddr) (s t : State) (r : Result), exec (.translate va) s = .next t → s.phase = .idle →
    t.delivered = s.delivered ++ [r] →
    ¬(r.tlbHit = true ∧ r.pageFault = true) ∧
    (r.tlbHit = true ↔ ∃ e ∈ s.tlb, e.page = pageOf va) ∧
    (r.pageFault = true ↔ (∀ e ∈ s.tlb, e.page ≠ pageOf va) ∧ ptGet s.pt (pageOf va) = none) ∧
    (r.tlbHit = true → t.tlb = s.tlb) ∧
    (r.pageFault = false → t.pt = s.pt ∧ t.rq = s.rq ∧ t.allocCount = s.allocCount ∧ t.mem = s.mem ∧
      t.answers = s.answers) ∧
    (r.tlbHit = false → r.pageFault = false → ∃ f : Frame, ptGet s.pt (pageOf va) = some f ∧
      t.tlb = tlbPush s.params.tlbSize s.tlb (pageOf va) f) ∧
    (r.pageFault = true → ∃ a : Allocation, ptAllocate s.params s.pt s.rq s.allocCount (pageOf va) = .ok a ∧
      t.pt = a.pt ∧ t.rq = a.rq ∧ t.allocCount = a.allocCount ∧
      (s.params.policy = .preserve ∨ a.evicted = none →
        t.tlb = tlbPush s.params.tlbSize s.tlb (pageOf va) a.frame) ∧
      (∀ v : Page, s.params.policy = .invalidate → a.evicted = some v →
        t.tlb = tlbPush s.params.tlbSize (tlbRemove s.tlb v) (pageOf va) a.frame) ∧
      (∀ o : Nat, o < 256 →
        t.mem.read (frameBase a.frame + o) = some (storeRead s.store ((pageOf va).toNat * 256 + o))) ∧
      SameOutsideFrame a.frame s.mem t.mem ∧ s.answers = .ok :: t.answers)

/-- R170: the offset passes through, and the frame portion of the result is the frame that the TLB now has for the page. -/
def Obligations.TheOffsetPassesThrough : Prop :=
  ∀ (va : Vaddr) (s t : State) (r : Result), exec (.translate va) s = .next t → s.phase = .idle →
    t.delivered = s.delivered ++ [r] →
    r.paddr.extractLsb' 0 8 = va.extractLsb' 0 8 ∧ tlbFind t.tlb (pageOf va) = some (r.paddr.extractLsb' 8 8)

/-- R171: after a completed TRANSLATE, a TRANSLATE of the same address is a TLB hit with the same physical address and the
same value, and it changes none of the structures; and whatever address of the same page is asked for instead, a result
is a TLB hit on the same frame. -/
def Obligations.ImmediateRepeatIsATlbHit : Prop :=
  ∀ (va : Vaddr) (s t : State) (r : Result), exec (.translate va) s = .next t → s.phase = .idle →
    t.delivered = s.delivered ++ [r] →
    (∃ u : State, exec (.translate va) t = .next u ∧
      u.delivered = t.delivered ++ [{ r with tlbHit := true, pageFault := false }] ∧ u.phase = .idle ∧
      u.tlb = t.tlb ∧ u.pt = t.pt ∧ u.rq = t.rq ∧ u.allocCount = t.allocCount ∧ u.mem = t.mem) ∧
    (∀ (va' : Vaddr) (u : State) (r' : Result), pageOf va' = pageOf va → exec (.translate va') t = .next u →
      u.delivered = t.delivered ++ [r'] →
      r'.tlbHit = true ∧ r'.pageFault = false ∧ pageOf r'.paddr = pageOf r.paddr)

/-- R14, U10: a transaction that needs the reader happens only if the reader's answer arrives. While there is none, TRANSLATE
leaves the whole state as it was, and at the transaction level the request stays on its port however many steps are made. -/
def Obligations.TranslateHappensOnlyWithTheAnswer : Prop :=
  ∀ (va : Vaddr) (s : State), s.phase = .idle → s.AsksTheReader va → s.answers = [] →
    exec (.translate va) s = .next s ∧
    (s.params.wf = true → s.resetPin = false → s.level = .transaction → s.requests.head? = some va → ∀ n : Nat,
      Host.Core.run Sys2Proof.core n s = .next s)

/-- R14: at the transaction level a step on a request is a whole transaction. Unless it needs an answer of the reader that has
not arrived (U10) and so has not happened, the step takes the request and ends with one more result delivered and the
machine in `IDLE`, with the result on the response port where the driver is not ready for it (R95), or with the machine
halted and no result (R190). It never ends part of the way. -/
def Obligations.TransactionStepIsWhole : Prop :=
  ∀ (s t : State) (va : Vaddr) (rest : List Vaddr), s.level = .transaction → s.resetPin = false → s.phase = .idle →
    s.requests = va :: rest → step s = .next t →
    (t = s ∧ s.answers = [] ∧ s.AsksTheReader va) ∨
    (t.requests = rest ∧
      ((∃ r : Result, s.respReady = true ∧ t.delivered = s.delivered ++ [r] ∧ t.phase = .idle) ∨
        (s.respReady = false ∧ t.delivered = s.delivered ∧ t.phase = .resp ∧ t.respValid = true) ∨
        (t.phase = .halt ∧ t.delivered = s.delivered ∧ t.errCause ≠ .none ∧ t.errPage = pageOf va)))

/-- R163, R14: the walk through the phases implements the transaction exactly. From any state in `IDLE` with a request, some
number of phase steps, at most eleven, ends where one transaction step ends, be it a state, a fault or a refusal. Where the
transaction needs an answer of the reader that has not arrived, the walk comes to `FILL` and waits there (U10), and once an
answer arrives at most five more steps end where the transaction with that answer ends. -/
def Obligations.ThePhaseWalkImplementsTheTransaction : Prop :=
  ∀ (s : State) (va : Vaddr), s.params.wf = true → s.level = .phase → s.resetPin = false → s.phase = .idle →
    s.requests.head? = some va →
    ((s.answers = [] → ¬ s.AsksTheReader va) →
      ∃ n : Nat, n ≤ 11 ∧
        Host.Core.run Sys2Proof.core n s = atLevel .phase (step { s with level := .transaction })) ∧
    (s.answers = [] → s.AsksTheReader va →
      ∃ (n : Nat) (t : State), n ≤ 6 ∧ Host.Core.run Sys2Proof.core n s = .next t ∧ t.phase = .fill ∧
        ∀ (a : ReaderAnswer) (later : List ReaderAnswer), ∃ m : Nat, m ≤ 5 ∧
          Host.Core.run Sys2Proof.core m { t with answers := a :: later } =
            atLevel .phase (step { s with level := .transaction, answers := a :: later }))

/-! ## Invariants -/

/-- R221 (d): the invariant holds at power-up with any legal parameters, any store and at either level. -/
def Obligations.TheInvariantHoldsAtPowerUp : Prop :=
  State.reset.Inv ∧
  ∀ (c : Params) (store : Memory) (level : Level), c.wf = true → (State.powerUp c store level).Inv

/-- R204: whatever the environment presents, the invariant stays. -/
def Obligations.TheEnvironmentKeepsTheInvariant : Prop :=
  ∀ (s : State) (resetPin : Bool) (requests : List Vaddr) (respReady : Bool) (answers : List ReaderAnswer), s.Inv →
    (s.withInputs resetPin requests respReady answers).Inv

/-- R14, R50 to R57, R200 (e): every step keeps the invariant, at both levels, through faults, evictions, halts and resets. -/
def Obligations.EveryStepKeepsTheInvariant : Prop :=
  ∀ s t : State, s.Inv → step s = .next t → t.Inv

/-- R81, R133, R139 (d), R193: where the invariant holds, no step stops: no unwritten byte is read, no resident page is
allocated, the replacement queue is never empty when its front is needed. -/
def Obligations.NoStepStopsUnderTheInvariant : Prop :=
  ∀ s : State, s.Inv → ∃ t : State, step s = .next t

/-- R50 to R55, R57, R81: in every state that a run can reach, the TLB is within its capacity with no page twice, the queue is
counted, agrees with the page table and goes round-robin, every TLB frame has been allocated, and the machine can make its
next step. The spec marks R51, R52, R55, R57 and R81 as its own inferences. -/
def Obligations.ReachableStatesAreSound : Prop :=
  ∀ s : State, Reachable s →
    s.TlbWithinCapacity ∧ s.TlbPagesDistinct ∧ s.QueueCounted ∧ s.TableAgreesWithQueue ∧ s.QueueDistinct ∧
    s.RoundRobin ∧ (∀ e ∈ s.tlb, e.frame.toNat < s.allocCount) ∧ ∃ t : State, step s = .next t

/-- R50: no step makes the TLB hold more than `TLB_SIZE` entries, and it holds none after reset. -/
def Obligations.TlbStaysWithinItsCapacity : Prop :=
  State.reset.tlb = [] ∧
  ∀ s t : State, s.tlb.length ≤ s.params.tlbSize → step s = .next t → t.tlb.length ≤ t.params.tlbSize

/-- R27, R67: every step keeps the canonical form of the physical memory. -/
def Obligations.EveryStepKeepsMemoryCanonical : Prop :=
  ∀ s t : State, Memory.wf s.mem → step s = .next t → Memory.wf t.mem

/-- R6, R16, R220, R232: no step changes the parameters or the store, and no step sets an input other than by using up the
request it accepts and the reader's answer it acts on. -/
def Obligations.ParametersStoreAndInputsStay : Prop :=
  ∀ s t : State, step s = .next t →
    t.params = s.params ∧ t.store = s.store ∧ t.level = s.level ∧ t.resetPin = s.resetPin ∧
    t.respReady = s.respReady ∧ (t.requests = s.requests ∨ t.requests = s.requests.tail) ∧
    (t.answers = s.answers ∨ t.answers = s.answers.tail)

/-- R21, R23, R25, R26, R27: each structure has its writers. A micro-operation other than TLB.INSERT and TLB.INVAL leaves the
TLB, one other than PT.ALLOC leaves the page table, the queue and the counter, one other than BS.FILL leaves the memory
and the error registers, and none sets `cur_page` but VA.SPLIT, RESPOND and the exception. -/
def Obligations.EachStructureHasItsWriters : Prop :=
  ∀ (i : Instr) (s t : State), exec i s = .next t → i ≠ .reset → (∀ va, i ≠ .translate va) →
    (i ≠ .tlbInsert → i ≠ .tlbInval → t.tlb = s.tlb) ∧
    (i ≠ .ptAlloc → t.pt = s.pt ∧ t.rq = s.rq ∧ t.allocCount = s.allocCount) ∧
    (i ≠ .bsFill → t.mem = s.mem ∧ t.errCause = s.errCause ∧ t.errPage = s.errPage ∧ t.answers = s.answers) ∧
    (i ≠ .respond → t.delivered = s.delivered) ∧
    (i ≠ .vaSplit → i ≠ .respond → i ≠ .bsFill → t.curPage = s.curPage ∧ t.curOffset = s.curOffset)

/-- R76, R95: results are delivered in order, at most one a step, and none is taken back. -/
def Obligations.ResultsAreDeliveredInOrder : Prop :=
  ∀ s t : State, step s = .next t →
    t.delivered = s.delivered ∨
    ∃ r : Result, t.delivered = s.delivered ++ [r] ∧ t.phase = .idle ∧ (s.phase = .idle ∨ s.phase = .resp) ∧
      s.respReady = true

/-- R202, R41: without reset the error registers are written only by the step that halts the machine. -/
def Obligations.ErrorRegistersAreWrittenOnce : Prop :=
  ∀ s t : State, step s = .next t → s.resetPin = false →
    (t.errCause = s.errCause ∧ t.errPage = s.errPage) ∨
    (s.phase ≠ .halt ∧ t.phase = .halt ∧ t.errCause ≠ .none)

/-! ## What a result is worth -/

/-- R172: where the requested page is resident, or is brought in by a fault, the value is the store's byte at the requested
address, under both policies. -/
def Obligations.LiveResultsAreTheStoreBytes : Prop :=
  ∀ (va : Vaddr) (s t : State) (r : Result), s.Inv → s.phase = .idle → exec (.translate va) s = .next t →
    t.delivered = s.delivered ++ [r] → (ptGet s.pt (pageOf va) ≠ none ∨ r.pageFault = true) →
    r.value = signed8 (storeRead s.store va.toNat)

/-- R230, R57: under `INVALIDATE` every result is the store's byte at the requested address. -/
def Obligations.InvalidateResultsAreTheStoreBytes : Prop :=
  ∀ (va : Vaddr) (s t : State) (r : Result), s.Inv → s.params.policy = .invalidate → s.phase = .idle →
    exec (.translate va) s = .next t → t.delivered = s.delivered ++ [r] →
    r.value = signed8 (storeRead s.store va.toNat)

/-- R177: a stale hit. A page that is not resident but still in the TLB is served as a TLB hit with the byte of the page that
now owns the frame, another page, whether the driver takes the result at once or not, and nothing changes but the
transaction registers and the request port. -/
def Obligations.StaleHitReturnsTheOwnersByte : Prop :=
  ∀ (p : Page) (o : Offset) (f : Frame) (s : State), s.Inv → s.phase = .idle →
    Entry.mk p f ∈ s.tlb → ptGet s.pt p = none →
    ∃ (q : Page) (t : State), Entry.mk q f ∈ s.rq ∧ q ≠ p ∧ exec (.translate (p ++ o)) s = .next t ∧
      s.Answered t ⟨f ++ o, signed8 (storeRead s.store (q.toNat * 256 + o.toNat)), true, false⟩ ∧
      s.SameSurroundings t ∧ t.answers = s.answers ∧
      t.tlb = s.tlb ∧ t.pt = s.pt ∧ t.rq = s.rq ∧ t.allocCount = s.allocCount ∧ t.mem = s.mem

/-- R230: the claim that every result is the store's byte is false of this hardware (`PRESERVE`): in some state that meets the
invariant a completed TRANSLATE gives the byte of another page at the requested offset, and that is not the store's byte
at the requested address. -/
def Obligations.PreserveCanReturnAnotherPagesByte : Prop :=
  ∃ (va : Vaddr) (s t : State) (r : Result) (q : Page), s.Inv ∧ s.params.policy = .preserve ∧ s.phase = .idle ∧
    exec (.translate va) s = .next t ∧ t.delivered = s.delivered ++ [r] ∧
    q ≠ pageOf va ∧ r.value = signed8 (storeRead s.store (q.toNat * 256 + (offsetOf va).toNat)) ∧
    r.value ≠ signed8 (storeRead s.store va.toNat)
end

