-- ==== Sys2Proof/Laws/Memory.lean ====
section
/-! SUPPORT. The laws of the memory operations: what a read gives after a block is written or erased, and that every
operation keeps the canonical form. -/

namespace Sys2Proof.Machine

/-! ## Reading -/

@[simp] theorem Memory.read_nil (a : Nat) : Memory.read [] a = none := rfl

theorem Memory.read_cons (c : Host.Cell) (m : Memory) (a : Nat) :
    Memory.read (c :: m) a = if a = c.1 then some c.2 else Memory.read m a := by
  obtain ⟨k, b⟩ := c
  unfold Memory.read
  rw [List.lookup_cons]
  by_cases h : a = k
  · simp [h]
  · simp [h, beq_false_of_ne h]

/-- A read finds nothing at an address that no cell has. -/
theorem Memory.read_eq_none {m : Memory} {a : Nat} (h : ∀ c ∈ m, c.1 ≠ a) : m.read a = none := by
  induction m with
  | nil => rfl
  | cons c m ih =>
    rw [Memory.read_cons, if_neg (fun e => h c (by simp) e.symm)]
    exact ih fun d hd => h d (by simp [hd])

theorem Memory.read_append (m m' : Memory) (a : Nat) :
    Memory.read (m ++ m') a = (Memory.read m a).or (Memory.read m' a) := by
  induction m with
  | nil => simp
  | cons c m ih =>
    rw [List.cons_append, Memory.read_cons, Memory.read_cons, ih]
    split <;> simp

/-- Filtering by address keeps what the addresses that pass read as. -/
theorem Memory.read_filter_keep (m : Memory) (P : Nat → Bool) (a : Nat) (h : P a = true) :
    Memory.read (m.filter fun c => P c.1) a = m.read a := by
  induction m with
  | nil => rfl
  | cons c m ih =>
    rw [List.filter_cons]
    by_cases hc : a = c.1
    · simp [← hc, h, Memory.read_cons]
    · split <;> simp [Memory.read_cons, hc, ih]

/-- Filtering by address leaves nothing at an address that does not pass. -/
theorem Memory.read_filter_drop (m : Memory) (P : Nat → Bool) (a : Nat) (h : P a = false) :
    Memory.read (m.filter fun c => P c.1) a = none := by
  apply Memory.read_eq_none
  intro c hc e
  have := (List.mem_filter.mp hc).2
  simp [e, h] at this

/-! ## Blocks -/

theorem mem_blockCells {base : Nat} {d : List Byte} {c : Host.Cell} (h : c ∈ blockCells base d) :
    base ≤ c.1 ∧ c.1 < base + d.length := by
  induction d generalizing base with
  | nil => simp [blockCells] at h
  | cons b d ih =>
    rcases List.mem_cons.mp h with rfl | h
    · simp
    · have := ih h
      simp only [List.length_cons]
      omega

theorem read_blockCells (base : Nat) (d : List Byte) (i : Nat) :
    Memory.read (blockCells base d) (base + i) = d[i]? := by
  induction d generalizing base i with
  | nil => simp [blockCells]
  | cons b d ih =>
    rw [blockCells, Memory.read_cons]
    cases i with
    | zero => simp
    | succ i =>
      have := ih (base + 1) i
      rw [if_neg (by simp), show base + (i + 1) = base + 1 + i by omega, this]
      simp

theorem blockCells_wf (base : Nat) (d : List Byte) : Memory.wf (blockCells base d) := by
  induction d generalizing base with
  | nil => simp [blockCells]
  | cons b d ih =>
    refine List.Pairwise.cons ?_ (ih _)
    intro c hc
    have := (mem_blockCells hc).1
    show base < c.1
    omega

/-- After a block is written, its addresses read as its bytes (R67). -/
theorem Memory.read_writeBlock_in (m : Memory) (base : Nat) (d : List Byte) {i : Nat} (h : i < d.length) :
    (m.writeBlock base d).read (base + i) = some d[i] := by
  have h1 := Memory.read_filter_drop m (fun a => decide (a < base)) (base + i) (by simp)
  simp only [Memory.writeBlock, Memory.read_append, h1, read_blockCells]
  simp [h]

/-- After a block is written, every other address reads as before (R67). -/
theorem Memory.read_writeBlock_out (m : Memory) (base : Nat) (d : List Byte) {a : Nat}
    (h : a < base ∨ base + d.length ≤ a) : (m.writeBlock base d).read a = m.read a := by
  have hb : Memory.read (blockCells base d) a = none :=
    Memory.read_eq_none fun c hc e => by have := mem_blockCells hc; omega
  simp only [Memory.writeBlock, Memory.read_append, hb]
  rcases h with h | h
  · rw [Memory.read_filter_keep m (fun a => decide (a < base)) a (by simpa using h),
      Memory.read_filter_drop m (fun a => decide (base + d.length ≤ a)) a (by simp; omega)]
    cases m.read a <;> rfl
  · rw [Memory.read_filter_drop m (fun a => decide (a < base)) a (by simp; omega),
      Memory.read_filter_keep m (fun a => decide (base + d.length ≤ a)) a (by simpa using h)]
    rfl

/-- Writing a block keeps the canonical form. -/
theorem Memory.writeBlock_wf {m : Memory} (h : Memory.wf m) (base : Nat) (d : List Byte) :
    Memory.wf (m.writeBlock base d) := by
  refine List.pairwise_append.mpr ⟨List.pairwise_append.mpr ⟨List.Pairwise.filter _ h, blockCells_wf _ _, ?_⟩,
    List.Pairwise.filter _ h, ?_⟩
  · intro c hc e he
    have h1 : c.1 < base := by simpa using (List.mem_filter.mp hc).2
    have := (mem_blockCells he).1
    omega
  · intro c hc e he
    have h2 : base + d.length ≤ e.1 := by simpa using (List.mem_filter.mp he).2
    rcases List.mem_append.mp hc with hc | hc
    · have h1 : c.1 < base := by simpa using (List.mem_filter.mp hc).2
      omega
    · have := (mem_blockCells hc).2
      omega

/-- The cells after a block is written are the block's and old ones. -/
theorem Memory.mem_writeBlock {m : Memory} {base : Nat} {d : List Byte} {c : Host.Cell}
    (h : c ∈ m.writeBlock base d) : c ∈ m ∨ (base ≤ c.1 ∧ c.1 < base + d.length) := by
  rcases List.mem_append.mp h with h | h
  · rcases List.mem_append.mp h with h | h
    · exact .inl (List.mem_filter.mp h).1
    · exact .inr (mem_blockCells h)
  · exact .inl (List.mem_filter.mp h).1

/-- An erased address holds no value (R200 (d)). -/
theorem Memory.read_erase_in (m : Memory) {base n a : Nat} (h : base ≤ a ∧ a < base + n) :
    (m.erase base n).read a = none :=
  Memory.read_filter_drop m (fun a => decide (a < base) || decide (base + n ≤ a)) a (by simp; omega)

/-- Every other address reads as before. -/
theorem Memory.read_erase_out (m : Memory) {base n a : Nat} (h : a < base ∨ base + n ≤ a) :
    (m.erase base n).read a = m.read a :=
  Memory.read_filter_keep m (fun a => decide (a < base) || decide (base + n ≤ a)) a (by simpa using h)

/-- Erasing keeps the canonical form. -/
theorem Memory.erase_wf {m : Memory} (h : Memory.wf m) (base n : Nat) : Memory.wf (m.erase base n) :=
  List.Pairwise.filter _ h

/-- The memory after reset has the canonical form. -/
theorem reset_memory_wf : Memory.wf State.reset.mem := List.Pairwise.nil

/-! ## The primitives -/

/-- What `MemRead` can answer (R66). -/
theorem memRead_cases (c : Params) (m : Memory) (a : Nat) :
    (∃ b, a < c.memBytes ∧ m.read a = some b ∧ memRead c m a = .ok b) ∨
    (a < c.memBytes ∧ m.read a = none ∧ memRead c m a = .error (.unwrittenByte a)) ∨
    (c.memBytes ≤ a ∧ memRead c m a = .error (.noSuchAddress a)) := by
  by_cases h : a < c.memBytes
  · cases hb : m.read a with
    | some b => exact .inl ⟨b, h, rfl, by simp [memRead, h, hb]⟩
    | none => exact .inr (.inl ⟨h, rfl, by simp [memRead, h, hb]⟩)
  · exact .inr (.inr ⟨by omega, by simp [memRead, h]⟩)

/-- What `MemWrite` can answer (R67). -/
theorem memWriteFrame_cases (c : Params) (m : Memory) (f : Frame) (d : List Byte) :
    (f.toNat < c.numFrames ∧ memWriteFrame c m f d = .ok (m.writeBlock (frameBase f) d)) ∨
    (c.numFrames ≤ f.toNat ∧ memWriteFrame c m f d = .error (.noSuchAddress (frameBase f))) := by
  by_cases h : f.toNat < c.numFrames
  · exact .inl ⟨h, by simp [memWriteFrame, h]⟩
  · exact .inr ⟨by omega, by simp [memWriteFrame, h]⟩

@[simp] theorem storePage_length (store : Memory) (p : Page) : (storePage store p).length = pageSize := by
  simp [storePage]

/-- Byte `i` of a page is the store's byte at offset `p × 256 + i` (R63, R68). -/
theorem storePage_getElem (store : Memory) (p : Page) (i : Nat) (h : i < (storePage store p).length) :
    (storePage store p)[i] = storeRead store (storeBase p + i) := by simp [storePage]

end Sys2Proof.Machine
end

