-- ==== Sys2Proof/Laws/State.lean ====
section
/-! SUPPORT. One lemma per field per update of State, true by definition, so that no proof unfolds an update. -/

namespace Sys2Proof.Machine

variable (s : State)

/-! ### goto -/

@[simp] theorem State.goto_params (p : Phase) : (s.goto p).params = s.params := rfl
@[simp] theorem State.goto_level (p : Phase) : (s.goto p).level = s.level := rfl
@[simp] theorem State.goto_store (p : Phase) : (s.goto p).store = s.store := rfl
@[simp] theorem State.goto_resetPin (p : Phase) : (s.goto p).resetPin = s.resetPin := rfl
@[simp] theorem State.goto_requests (p : Phase) : (s.goto p).requests = s.requests := rfl
@[simp] theorem State.goto_respReady (p : Phase) : (s.goto p).respReady = s.respReady := rfl
@[simp] theorem State.goto_answers (p : Phase) : (s.goto p).answers = s.answers := rfl
@[simp] theorem State.goto_delivered (p : Phase) : (s.goto p).delivered = s.delivered := rfl
@[simp] theorem State.goto_tlb (p : Phase) : (s.goto p).tlb = s.tlb := rfl
@[simp] theorem State.goto_pt (p : Phase) : (s.goto p).pt = s.pt := rfl
@[simp] theorem State.goto_rq (p : Phase) : (s.goto p).rq = s.rq := rfl
@[simp] theorem State.goto_allocCount (p : Phase) : (s.goto p).allocCount = s.allocCount := rfl
@[simp] theorem State.goto_mem (p : Phase) : (s.goto p).mem = s.mem := rfl
@[simp] theorem State.goto_reqVaddr (p : Phase) : (s.goto p).reqVaddr = s.reqVaddr := rfl
@[simp] theorem State.goto_curPage (p : Phase) : (s.goto p).curPage = s.curPage := rfl
@[simp] theorem State.goto_curOffset (p : Phase) : (s.goto p).curOffset = s.curOffset := rfl
@[simp] theorem State.goto_curFrame (p : Phase) : (s.goto p).curFrame = s.curFrame := rfl
@[simp] theorem State.goto_evictValid (p : Phase) : (s.goto p).evictValid = s.evictValid := rfl
@[simp] theorem State.goto_evictPage (p : Phase) : (s.goto p).evictPage = s.evictPage := rfl
@[simp] theorem State.goto_resPaddr (p : Phase) : (s.goto p).resPaddr = s.resPaddr := rfl
@[simp] theorem State.goto_resValue (p : Phase) : (s.goto p).resValue = s.resValue := rfl
@[simp] theorem State.goto_resTlbHit (p : Phase) : (s.goto p).resTlbHit = s.resTlbHit := rfl
@[simp] theorem State.goto_resPageFault (p : Phase) : (s.goto p).resPageFault = s.resPageFault := rfl
@[simp] theorem State.goto_phase (p : Phase) : (s.goto p).phase = p := rfl
@[simp] theorem State.goto_errCause (p : Phase) : (s.goto p).errCause = s.errCause := rfl
@[simp] theorem State.goto_errPage (p : Phase) : (s.goto p).errPage = s.errPage := rfl
@[simp] theorem State.goto_losses (p : Phase) : (s.goto p).losses = s.losses := rfl

/-! ### withValue -/

@[simp] theorem State.withValue_params (b : Byte) : (s.withValue b).params = s.params := rfl
@[simp] theorem State.withValue_level (b : Byte) : (s.withValue b).level = s.level := rfl
@[simp] theorem State.withValue_store (b : Byte) : (s.withValue b).store = s.store := rfl
@[simp] theorem State.withValue_resetPin (b : Byte) : (s.withValue b).resetPin = s.resetPin := rfl
@[simp] theorem State.withValue_requests (b : Byte) : (s.withValue b).requests = s.requests := rfl
@[simp] theorem State.withValue_respReady (b : Byte) : (s.withValue b).respReady = s.respReady := rfl
@[simp] theorem State.withValue_answers (b : Byte) : (s.withValue b).answers = s.answers := rfl
@[simp] theorem State.withValue_delivered (b : Byte) : (s.withValue b).delivered = s.delivered := rfl
@[simp] theorem State.withValue_tlb (b : Byte) : (s.withValue b).tlb = s.tlb := rfl
@[simp] theorem State.withValue_pt (b : Byte) : (s.withValue b).pt = s.pt := rfl
@[simp] theorem State.withValue_rq (b : Byte) : (s.withValue b).rq = s.rq := rfl
@[simp] theorem State.withValue_allocCount (b : Byte) : (s.withValue b).allocCount = s.allocCount := rfl
@[simp] theorem State.withValue_mem (b : Byte) : (s.withValue b).mem = s.mem := rfl
@[simp] theorem State.withValue_reqVaddr (b : Byte) : (s.withValue b).reqVaddr = s.reqVaddr := rfl
@[simp] theorem State.withValue_curPage (b : Byte) : (s.withValue b).curPage = s.curPage := rfl
@[simp] theorem State.withValue_curOffset (b : Byte) : (s.withValue b).curOffset = s.curOffset := rfl
@[simp] theorem State.withValue_curFrame (b : Byte) : (s.withValue b).curFrame = s.curFrame := rfl
@[simp] theorem State.withValue_evictValid (b : Byte) : (s.withValue b).evictValid = s.evictValid := rfl
@[simp] theorem State.withValue_evictPage (b : Byte) : (s.withValue b).evictPage = s.evictPage := rfl
@[simp] theorem State.withValue_resPaddr (b : Byte) : (s.withValue b).resPaddr = s.resPaddr := rfl
@[simp] theorem State.withValue_resValue (b : Byte) : (s.withValue b).resValue = b := rfl
@[simp] theorem State.withValue_resTlbHit (b : Byte) : (s.withValue b).resTlbHit = s.resTlbHit := rfl
@[simp] theorem State.withValue_resPageFault (b : Byte) : (s.withValue b).resPageFault = s.resPageFault := rfl
@[simp] theorem State.withValue_phase (b : Byte) : (s.withValue b).phase = s.phase := rfl
@[simp] theorem State.withValue_errCause (b : Byte) : (s.withValue b).errCause = s.errCause := rfl
@[simp] theorem State.withValue_errPage (b : Byte) : (s.withValue b).errPage = s.errPage := rfl
@[simp] theorem State.withValue_losses (b : Byte) : (s.withValue b).losses = s.losses := rfl

/-! ### useAnswer -/

@[simp] theorem State.useAnswer_params : (s.useAnswer).params = s.params := rfl
@[simp] theorem State.useAnswer_level : (s.useAnswer).level = s.level := rfl
@[simp] theorem State.useAnswer_store : (s.useAnswer).store = s.store := rfl
@[simp] theorem State.useAnswer_resetPin : (s.useAnswer).resetPin = s.resetPin := rfl
@[simp] theorem State.useAnswer_requests : (s.useAnswer).requests = s.requests := rfl
@[simp] theorem State.useAnswer_respReady : (s.useAnswer).respReady = s.respReady := rfl
@[simp] theorem State.useAnswer_answers : (s.useAnswer).answers = s.answers.tail := rfl
@[simp] theorem State.useAnswer_delivered : (s.useAnswer).delivered = s.delivered := rfl
@[simp] theorem State.useAnswer_tlb : (s.useAnswer).tlb = s.tlb := rfl
@[simp] theorem State.useAnswer_pt : (s.useAnswer).pt = s.pt := rfl
@[simp] theorem State.useAnswer_rq : (s.useAnswer).rq = s.rq := rfl
@[simp] theorem State.useAnswer_allocCount : (s.useAnswer).allocCount = s.allocCount := rfl
@[simp] theorem State.useAnswer_mem : (s.useAnswer).mem = s.mem := rfl
@[simp] theorem State.useAnswer_reqVaddr : (s.useAnswer).reqVaddr = s.reqVaddr := rfl
@[simp] theorem State.useAnswer_curPage : (s.useAnswer).curPage = s.curPage := rfl
@[simp] theorem State.useAnswer_curOffset : (s.useAnswer).curOffset = s.curOffset := rfl
@[simp] theorem State.useAnswer_curFrame : (s.useAnswer).curFrame = s.curFrame := rfl
@[simp] theorem State.useAnswer_evictValid : (s.useAnswer).evictValid = s.evictValid := rfl
@[simp] theorem State.useAnswer_evictPage : (s.useAnswer).evictPage = s.evictPage := rfl
@[simp] theorem State.useAnswer_resPaddr : (s.useAnswer).resPaddr = s.resPaddr := rfl
@[simp] theorem State.useAnswer_resValue : (s.useAnswer).resValue = s.resValue := rfl
@[simp] theorem State.useAnswer_resTlbHit : (s.useAnswer).resTlbHit = s.resTlbHit := rfl
@[simp] theorem State.useAnswer_resPageFault : (s.useAnswer).resPageFault = s.resPageFault := rfl
@[simp] theorem State.useAnswer_phase : (s.useAnswer).phase = s.phase := rfl
@[simp] theorem State.useAnswer_errCause : (s.useAnswer).errCause = s.errCause := rfl
@[simp] theorem State.useAnswer_errPage : (s.useAnswer).errPage = s.errPage := rfl
@[simp] theorem State.useAnswer_losses : (s.useAnswer).losses = s.losses := rfl

/-! ### withMem -/

@[simp] theorem State.withMem_params (m : Memory) : (s.withMem m).params = s.params := rfl
@[simp] theorem State.withMem_level (m : Memory) : (s.withMem m).level = s.level := rfl
@[simp] theorem State.withMem_store (m : Memory) : (s.withMem m).store = s.store := rfl
@[simp] theorem State.withMem_resetPin (m : Memory) : (s.withMem m).resetPin = s.resetPin := rfl
@[simp] theorem State.withMem_requests (m : Memory) : (s.withMem m).requests = s.requests := rfl
@[simp] theorem State.withMem_respReady (m : Memory) : (s.withMem m).respReady = s.respReady := rfl
@[simp] theorem State.withMem_answers (m : Memory) : (s.withMem m).answers = s.answers := rfl
@[simp] theorem State.withMem_delivered (m : Memory) : (s.withMem m).delivered = s.delivered := rfl
@[simp] theorem State.withMem_tlb (m : Memory) : (s.withMem m).tlb = s.tlb := rfl
@[simp] theorem State.withMem_pt (m : Memory) : (s.withMem m).pt = s.pt := rfl
@[simp] theorem State.withMem_rq (m : Memory) : (s.withMem m).rq = s.rq := rfl
@[simp] theorem State.withMem_allocCount (m : Memory) : (s.withMem m).allocCount = s.allocCount := rfl
@[simp] theorem State.withMem_mem (m : Memory) : (s.withMem m).mem = m := rfl
@[simp] theorem State.withMem_reqVaddr (m : Memory) : (s.withMem m).reqVaddr = s.reqVaddr := rfl
@[simp] theorem State.withMem_curPage (m : Memory) : (s.withMem m).curPage = s.curPage := rfl
@[simp] theorem State.withMem_curOffset (m : Memory) : (s.withMem m).curOffset = s.curOffset := rfl
@[simp] theorem State.withMem_curFrame (m : Memory) : (s.withMem m).curFrame = s.curFrame := rfl
@[simp] theorem State.withMem_evictValid (m : Memory) : (s.withMem m).evictValid = s.evictValid := rfl
@[simp] theorem State.withMem_evictPage (m : Memory) : (s.withMem m).evictPage = s.evictPage := rfl
@[simp] theorem State.withMem_resPaddr (m : Memory) : (s.withMem m).resPaddr = s.resPaddr := rfl
@[simp] theorem State.withMem_resValue (m : Memory) : (s.withMem m).resValue = s.resValue := rfl
@[simp] theorem State.withMem_resTlbHit (m : Memory) : (s.withMem m).resTlbHit = s.resTlbHit := rfl
@[simp] theorem State.withMem_resPageFault (m : Memory) : (s.withMem m).resPageFault = s.resPageFault := rfl
@[simp] theorem State.withMem_phase (m : Memory) : (s.withMem m).phase = s.phase := rfl
@[simp] theorem State.withMem_errCause (m : Memory) : (s.withMem m).errCause = s.errCause := rfl
@[simp] theorem State.withMem_errPage (m : Memory) : (s.withMem m).errPage = s.errPage := rfl
@[simp] theorem State.withMem_losses (m : Memory) : (s.withMem m).losses = s.losses := rfl

/-! ### accept -/

@[simp] theorem State.accept_params (va : Vaddr) : (s.accept va).params = s.params := rfl
@[simp] theorem State.accept_level (va : Vaddr) : (s.accept va).level = s.level := rfl
@[simp] theorem State.accept_store (va : Vaddr) : (s.accept va).store = s.store := rfl
@[simp] theorem State.accept_resetPin (va : Vaddr) : (s.accept va).resetPin = s.resetPin := rfl
@[simp] theorem State.accept_requests (va : Vaddr) : (s.accept va).requests = s.requests.tail := rfl
@[simp] theorem State.accept_respReady (va : Vaddr) : (s.accept va).respReady = s.respReady := rfl
@[simp] theorem State.accept_answers (va : Vaddr) : (s.accept va).answers = s.answers := rfl
@[simp] theorem State.accept_delivered (va : Vaddr) : (s.accept va).delivered = s.delivered := rfl
@[simp] theorem State.accept_tlb (va : Vaddr) : (s.accept va).tlb = s.tlb := rfl
@[simp] theorem State.accept_pt (va : Vaddr) : (s.accept va).pt = s.pt := rfl
@[simp] theorem State.accept_rq (va : Vaddr) : (s.accept va).rq = s.rq := rfl
@[simp] theorem State.accept_allocCount (va : Vaddr) : (s.accept va).allocCount = s.allocCount := rfl
@[simp] theorem State.accept_mem (va : Vaddr) : (s.accept va).mem = s.mem := rfl
@[simp] theorem State.accept_reqVaddr (va : Vaddr) : (s.accept va).reqVaddr = va := rfl
@[simp] theorem State.accept_curPage (va : Vaddr) : (s.accept va).curPage = s.curPage := rfl
@[simp] theorem State.accept_curOffset (va : Vaddr) : (s.accept va).curOffset = s.curOffset := rfl
@[simp] theorem State.accept_curFrame (va : Vaddr) : (s.accept va).curFrame = s.curFrame := rfl
@[simp] theorem State.accept_evictValid (va : Vaddr) : (s.accept va).evictValid = s.evictValid := rfl
@[simp] theorem State.accept_evictPage (va : Vaddr) : (s.accept va).evictPage = s.evictPage := rfl
@[simp] theorem State.accept_resPaddr (va : Vaddr) : (s.accept va).resPaddr = s.resPaddr := rfl
@[simp] theorem State.accept_resValue (va : Vaddr) : (s.accept va).resValue = s.resValue := rfl
@[simp] theorem State.accept_resTlbHit (va : Vaddr) : (s.accept va).resTlbHit = s.resTlbHit := rfl
@[simp] theorem State.accept_resPageFault (va : Vaddr) : (s.accept va).resPageFault = s.resPageFault := rfl
@[simp] theorem State.accept_phase (va : Vaddr) : (s.accept va).phase = .split := rfl
@[simp] theorem State.accept_errCause (va : Vaddr) : (s.accept va).errCause = s.errCause := rfl
@[simp] theorem State.accept_errPage (va : Vaddr) : (s.accept va).errPage = s.errPage := rfl
@[simp] theorem State.accept_losses (va : Vaddr) : (s.accept va).losses = s.losses := rfl

/-! ### splitVa -/

@[simp] theorem State.splitVa_params : (s.splitVa).params = s.params := rfl
@[simp] theorem State.splitVa_level : (s.splitVa).level = s.level := rfl
@[simp] theorem State.splitVa_store : (s.splitVa).store = s.store := rfl
@[simp] theorem State.splitVa_resetPin : (s.splitVa).resetPin = s.resetPin := rfl
@[simp] theorem State.splitVa_requests : (s.splitVa).requests = s.requests := rfl
@[simp] theorem State.splitVa_respReady : (s.splitVa).respReady = s.respReady := rfl
@[simp] theorem State.splitVa_answers : (s.splitVa).answers = s.answers := rfl
@[simp] theorem State.splitVa_delivered : (s.splitVa).delivered = s.delivered := rfl
@[simp] theorem State.splitVa_tlb : (s.splitVa).tlb = s.tlb := rfl
@[simp] theorem State.splitVa_pt : (s.splitVa).pt = s.pt := rfl
@[simp] theorem State.splitVa_rq : (s.splitVa).rq = s.rq := rfl
@[simp] theorem State.splitVa_allocCount : (s.splitVa).allocCount = s.allocCount := rfl
@[simp] theorem State.splitVa_mem : (s.splitVa).mem = s.mem := rfl
@[simp] theorem State.splitVa_reqVaddr : (s.splitVa).reqVaddr = s.reqVaddr := rfl
@[simp] theorem State.splitVa_curPage : (s.splitVa).curPage = pageOf s.reqVaddr := rfl
@[simp] theorem State.splitVa_curOffset : (s.splitVa).curOffset = offsetOf s.reqVaddr := rfl
@[simp] theorem State.splitVa_curFrame : (s.splitVa).curFrame = s.curFrame := rfl
@[simp] theorem State.splitVa_evictValid : (s.splitVa).evictValid = s.evictValid := rfl
@[simp] theorem State.splitVa_evictPage : (s.splitVa).evictPage = s.evictPage := rfl
@[simp] theorem State.splitVa_resPaddr : (s.splitVa).resPaddr = s.resPaddr := rfl
@[simp] theorem State.splitVa_resValue : (s.splitVa).resValue = s.resValue := rfl
@[simp] theorem State.splitVa_resTlbHit : (s.splitVa).resTlbHit = s.resTlbHit := rfl
@[simp] theorem State.splitVa_resPageFault : (s.splitVa).resPageFault = s.resPageFault := rfl
@[simp] theorem State.splitVa_phase : (s.splitVa).phase = s.phase := rfl
@[simp] theorem State.splitVa_errCause : (s.splitVa).errCause = s.errCause := rfl
@[simp] theorem State.splitVa_errPage : (s.splitVa).errPage = s.errPage := rfl
@[simp] theorem State.splitVa_losses : (s.splitVa).losses = s.losses := rfl

/-! ### flagTlbHit -/

@[simp] theorem State.flagTlbHit_params : (s.flagTlbHit).params = s.params := rfl
@[simp] theorem State.flagTlbHit_level : (s.flagTlbHit).level = s.level := rfl
@[simp] theorem State.flagTlbHit_store : (s.flagTlbHit).store = s.store := rfl
@[simp] theorem State.flagTlbHit_resetPin : (s.flagTlbHit).resetPin = s.resetPin := rfl
@[simp] theorem State.flagTlbHit_requests : (s.flagTlbHit).requests = s.requests := rfl
@[simp] theorem State.flagTlbHit_respReady : (s.flagTlbHit).respReady = s.respReady := rfl
@[simp] theorem State.flagTlbHit_answers : (s.flagTlbHit).answers = s.answers := rfl
@[simp] theorem State.flagTlbHit_delivered : (s.flagTlbHit).delivered = s.delivered := rfl
@[simp] theorem State.flagTlbHit_tlb : (s.flagTlbHit).tlb = s.tlb := rfl
@[simp] theorem State.flagTlbHit_pt : (s.flagTlbHit).pt = s.pt := rfl
@[simp] theorem State.flagTlbHit_rq : (s.flagTlbHit).rq = s.rq := rfl
@[simp] theorem State.flagTlbHit_allocCount : (s.flagTlbHit).allocCount = s.allocCount := rfl
@[simp] theorem State.flagTlbHit_mem : (s.flagTlbHit).mem = s.mem := rfl
@[simp] theorem State.flagTlbHit_reqVaddr : (s.flagTlbHit).reqVaddr = s.reqVaddr := rfl
@[simp] theorem State.flagTlbHit_curPage : (s.flagTlbHit).curPage = s.curPage := rfl
@[simp] theorem State.flagTlbHit_curOffset : (s.flagTlbHit).curOffset = s.curOffset := rfl
@[simp] theorem State.flagTlbHit_curFrame : (s.flagTlbHit).curFrame = s.curFrame := rfl
@[simp] theorem State.flagTlbHit_evictValid : (s.flagTlbHit).evictValid = s.evictValid := rfl
@[simp] theorem State.flagTlbHit_evictPage : (s.flagTlbHit).evictPage = s.evictPage := rfl
@[simp] theorem State.flagTlbHit_resPaddr : (s.flagTlbHit).resPaddr = s.resPaddr := rfl
@[simp] theorem State.flagTlbHit_resValue : (s.flagTlbHit).resValue = s.resValue := rfl
@[simp] theorem State.flagTlbHit_resTlbHit : (s.flagTlbHit).resTlbHit = true := rfl
@[simp] theorem State.flagTlbHit_resPageFault : (s.flagTlbHit).resPageFault = false := rfl
@[simp] theorem State.flagTlbHit_phase : (s.flagTlbHit).phase = s.phase := rfl
@[simp] theorem State.flagTlbHit_errCause : (s.flagTlbHit).errCause = s.errCause := rfl
@[simp] theorem State.flagTlbHit_errPage : (s.flagTlbHit).errPage = s.errPage := rfl
@[simp] theorem State.flagTlbHit_losses : (s.flagTlbHit).losses = s.losses := rfl

/-! ### flagTlbMiss -/

@[simp] theorem State.flagTlbMiss_params : (s.flagTlbMiss).params = s.params := rfl
@[simp] theorem State.flagTlbMiss_level : (s.flagTlbMiss).level = s.level := rfl
@[simp] theorem State.flagTlbMiss_store : (s.flagTlbMiss).store = s.store := rfl
@[simp] theorem State.flagTlbMiss_resetPin : (s.flagTlbMiss).resetPin = s.resetPin := rfl
@[simp] theorem State.flagTlbMiss_requests : (s.flagTlbMiss).requests = s.requests := rfl
@[simp] theorem State.flagTlbMiss_respReady : (s.flagTlbMiss).respReady = s.respReady := rfl
@[simp] theorem State.flagTlbMiss_answers : (s.flagTlbMiss).answers = s.answers := rfl
@[simp] theorem State.flagTlbMiss_delivered : (s.flagTlbMiss).delivered = s.delivered := rfl
@[simp] theorem State.flagTlbMiss_tlb : (s.flagTlbMiss).tlb = s.tlb := rfl
@[simp] theorem State.flagTlbMiss_pt : (s.flagTlbMiss).pt = s.pt := rfl
@[simp] theorem State.flagTlbMiss_rq : (s.flagTlbMiss).rq = s.rq := rfl
@[simp] theorem State.flagTlbMiss_allocCount : (s.flagTlbMiss).allocCount = s.allocCount := rfl
@[simp] theorem State.flagTlbMiss_mem : (s.flagTlbMiss).mem = s.mem := rfl
@[simp] theorem State.flagTlbMiss_reqVaddr : (s.flagTlbMiss).reqVaddr = s.reqVaddr := rfl
@[simp] theorem State.flagTlbMiss_curPage : (s.flagTlbMiss).curPage = s.curPage := rfl
@[simp] theorem State.flagTlbMiss_curOffset : (s.flagTlbMiss).curOffset = s.curOffset := rfl
@[simp] theorem State.flagTlbMiss_curFrame : (s.flagTlbMiss).curFrame = s.curFrame := rfl
@[simp] theorem State.flagTlbMiss_evictValid : (s.flagTlbMiss).evictValid = s.evictValid := rfl
@[simp] theorem State.flagTlbMiss_evictPage : (s.flagTlbMiss).evictPage = s.evictPage := rfl
@[simp] theorem State.flagTlbMiss_resPaddr : (s.flagTlbMiss).resPaddr = s.resPaddr := rfl
@[simp] theorem State.flagTlbMiss_resValue : (s.flagTlbMiss).resValue = s.resValue := rfl
@[simp] theorem State.flagTlbMiss_resTlbHit : (s.flagTlbMiss).resTlbHit = false := rfl
@[simp] theorem State.flagTlbMiss_resPageFault : (s.flagTlbMiss).resPageFault = s.resPageFault := rfl
@[simp] theorem State.flagTlbMiss_phase : (s.flagTlbMiss).phase = s.phase := rfl
@[simp] theorem State.flagTlbMiss_errCause : (s.flagTlbMiss).errCause = s.errCause := rfl
@[simp] theorem State.flagTlbMiss_errPage : (s.flagTlbMiss).errPage = s.errPage := rfl
@[simp] theorem State.flagTlbMiss_losses : (s.flagTlbMiss).losses = s.losses := rfl

/-! ### flagPageFault -/

@[simp] theorem State.flagPageFault_params (b : Bool) : (s.flagPageFault b).params = s.params := rfl
@[simp] theorem State.flagPageFault_level (b : Bool) : (s.flagPageFault b).level = s.level := rfl
@[simp] theorem State.flagPageFault_store (b : Bool) : (s.flagPageFault b).store = s.store := rfl
@[simp] theorem State.flagPageFault_resetPin (b : Bool) : (s.flagPageFault b).resetPin = s.resetPin := rfl
@[simp] theorem State.flagPageFault_requests (b : Bool) : (s.flagPageFault b).requests = s.requests := rfl
@[simp] theorem State.flagPageFault_respReady (b : Bool) : (s.flagPageFault b).respReady = s.respReady := rfl
@[simp] theorem State.flagPageFault_answers (b : Bool) : (s.flagPageFault b).answers = s.answers := rfl
@[simp] theorem State.flagPageFault_delivered (b : Bool) : (s.flagPageFault b).delivered = s.delivered := rfl
@[simp] theorem State.flagPageFault_tlb (b : Bool) : (s.flagPageFault b).tlb = s.tlb := rfl
@[simp] theorem State.flagPageFault_pt (b : Bool) : (s.flagPageFault b).pt = s.pt := rfl
@[simp] theorem State.flagPageFault_rq (b : Bool) : (s.flagPageFault b).rq = s.rq := rfl
@[simp] theorem State.flagPageFault_allocCount (b : Bool) : (s.flagPageFault b).allocCount = s.allocCount := rfl
@[simp] theorem State.flagPageFault_mem (b : Bool) : (s.flagPageFault b).mem = s.mem := rfl
@[simp] theorem State.flagPageFault_reqVaddr (b : Bool) : (s.flagPageFault b).reqVaddr = s.reqVaddr := rfl
@[simp] theorem State.flagPageFault_curPage (b : Bool) : (s.flagPageFault b).curPage = s.curPage := rfl
@[simp] theorem State.flagPageFault_curOffset (b : Bool) : (s.flagPageFault b).curOffset = s.curOffset := rfl
@[simp] theorem State.flagPageFault_curFrame (b : Bool) : (s.flagPageFault b).curFrame = s.curFrame := rfl
@[simp] theorem State.flagPageFault_evictValid (b : Bool) : (s.flagPageFault b).evictValid = s.evictValid := rfl
@[simp] theorem State.flagPageFault_evictPage (b : Bool) : (s.flagPageFault b).evictPage = s.evictPage := rfl
@[simp] theorem State.flagPageFault_resPaddr (b : Bool) : (s.flagPageFault b).resPaddr = s.resPaddr := rfl
@[simp] theorem State.flagPageFault_resValue (b : Bool) : (s.flagPageFault b).resValue = s.resValue := rfl
@[simp] theorem State.flagPageFault_resTlbHit (b : Bool) : (s.flagPageFault b).resTlbHit = s.resTlbHit := rfl
@[simp] theorem State.flagPageFault_resPageFault (b : Bool) : (s.flagPageFault b).resPageFault = b := rfl
@[simp] theorem State.flagPageFault_phase (b : Bool) : (s.flagPageFault b).phase = s.phase := rfl
@[simp] theorem State.flagPageFault_errCause (b : Bool) : (s.flagPageFault b).errCause = s.errCause := rfl
@[simp] theorem State.flagPageFault_errPage (b : Bool) : (s.flagPageFault b).errPage = s.errPage := rfl
@[simp] theorem State.flagPageFault_losses (b : Bool) : (s.flagPageFault b).losses = s.losses := rfl

/-! ### onTlbHit -/

@[simp] theorem State.onTlbHit_params (f : Frame) : (s.onTlbHit f).params = s.params := rfl
@[simp] theorem State.onTlbHit_level (f : Frame) : (s.onTlbHit f).level = s.level := rfl
@[simp] theorem State.onTlbHit_store (f : Frame) : (s.onTlbHit f).store = s.store := rfl
@[simp] theorem State.onTlbHit_resetPin (f : Frame) : (s.onTlbHit f).resetPin = s.resetPin := rfl
@[simp] theorem State.onTlbHit_requests (f : Frame) : (s.onTlbHit f).requests = s.requests := rfl
@[simp] theorem State.onTlbHit_respReady (f : Frame) : (s.onTlbHit f).respReady = s.respReady := rfl
@[simp] theorem State.onTlbHit_answers (f : Frame) : (s.onTlbHit f).answers = s.answers := rfl
@[simp] theorem State.onTlbHit_delivered (f : Frame) : (s.onTlbHit f).delivered = s.delivered := rfl
@[simp] theorem State.onTlbHit_tlb (f : Frame) : (s.onTlbHit f).tlb = s.tlb := rfl
@[simp] theorem State.onTlbHit_pt (f : Frame) : (s.onTlbHit f).pt = s.pt := rfl
@[simp] theorem State.onTlbHit_rq (f : Frame) : (s.onTlbHit f).rq = s.rq := rfl
@[simp] theorem State.onTlbHit_allocCount (f : Frame) : (s.onTlbHit f).allocCount = s.allocCount := rfl
@[simp] theorem State.onTlbHit_mem (f : Frame) : (s.onTlbHit f).mem = s.mem := rfl
@[simp] theorem State.onTlbHit_reqVaddr (f : Frame) : (s.onTlbHit f).reqVaddr = s.reqVaddr := rfl
@[simp] theorem State.onTlbHit_curPage (f : Frame) : (s.onTlbHit f).curPage = s.curPage := rfl
@[simp] theorem State.onTlbHit_curOffset (f : Frame) : (s.onTlbHit f).curOffset = s.curOffset := rfl
@[simp] theorem State.onTlbHit_curFrame (f : Frame) : (s.onTlbHit f).curFrame = f := rfl
@[simp] theorem State.onTlbHit_evictValid (f : Frame) : (s.onTlbHit f).evictValid = s.evictValid := rfl
@[simp] theorem State.onTlbHit_evictPage (f : Frame) : (s.onTlbHit f).evictPage = s.evictPage := rfl
@[simp] theorem State.onTlbHit_resPaddr (f : Frame) : (s.onTlbHit f).resPaddr = s.resPaddr := rfl
@[simp] theorem State.onTlbHit_resValue (f : Frame) : (s.onTlbHit f).resValue = s.resValue := rfl
@[simp] theorem State.onTlbHit_resTlbHit (f : Frame) : (s.onTlbHit f).resTlbHit = true := rfl
@[simp] theorem State.onTlbHit_resPageFault (f : Frame) : (s.onTlbHit f).resPageFault = false := rfl
@[simp] theorem State.onTlbHit_phase (f : Frame) : (s.onTlbHit f).phase = s.phase := rfl
@[simp] theorem State.onTlbHit_errCause (f : Frame) : (s.onTlbHit f).errCause = s.errCause := rfl
@[simp] theorem State.onTlbHit_errPage (f : Frame) : (s.onTlbHit f).errPage = s.errPage := rfl
@[simp] theorem State.onTlbHit_losses (f : Frame) : (s.onTlbHit f).losses = s.losses := rfl

/-! ### onPtHit -/

@[simp] theorem State.onPtHit_params (f : Frame) : (s.onPtHit f).params = s.params := rfl
@[simp] theorem State.onPtHit_level (f : Frame) : (s.onPtHit f).level = s.level := rfl
@[simp] theorem State.onPtHit_store (f : Frame) : (s.onPtHit f).store = s.store := rfl
@[simp] theorem State.onPtHit_resetPin (f : Frame) : (s.onPtHit f).resetPin = s.resetPin := rfl
@[simp] theorem State.onPtHit_requests (f : Frame) : (s.onPtHit f).requests = s.requests := rfl
@[simp] theorem State.onPtHit_respReady (f : Frame) : (s.onPtHit f).respReady = s.respReady := rfl
@[simp] theorem State.onPtHit_answers (f : Frame) : (s.onPtHit f).answers = s.answers := rfl
@[simp] theorem State.onPtHit_delivered (f : Frame) : (s.onPtHit f).delivered = s.delivered := rfl
@[simp] theorem State.onPtHit_tlb (f : Frame) : (s.onPtHit f).tlb = s.tlb := rfl
@[simp] theorem State.onPtHit_pt (f : Frame) : (s.onPtHit f).pt = s.pt := rfl
@[simp] theorem State.onPtHit_rq (f : Frame) : (s.onPtHit f).rq = s.rq := rfl
@[simp] theorem State.onPtHit_allocCount (f : Frame) : (s.onPtHit f).allocCount = s.allocCount := rfl
@[simp] theorem State.onPtHit_mem (f : Frame) : (s.onPtHit f).mem = s.mem := rfl
@[simp] theorem State.onPtHit_reqVaddr (f : Frame) : (s.onPtHit f).reqVaddr = s.reqVaddr := rfl
@[simp] theorem State.onPtHit_curPage (f : Frame) : (s.onPtHit f).curPage = s.curPage := rfl
@[simp] theorem State.onPtHit_curOffset (f : Frame) : (s.onPtHit f).curOffset = s.curOffset := rfl
@[simp] theorem State.onPtHit_curFrame (f : Frame) : (s.onPtHit f).curFrame = f := rfl
@[simp] theorem State.onPtHit_evictValid (f : Frame) : (s.onPtHit f).evictValid = s.evictValid := rfl
@[simp] theorem State.onPtHit_evictPage (f : Frame) : (s.onPtHit f).evictPage = s.evictPage := rfl
@[simp] theorem State.onPtHit_resPaddr (f : Frame) : (s.onPtHit f).resPaddr = s.resPaddr := rfl
@[simp] theorem State.onPtHit_resValue (f : Frame) : (s.onPtHit f).resValue = s.resValue := rfl
@[simp] theorem State.onPtHit_resTlbHit (f : Frame) : (s.onPtHit f).resTlbHit = s.resTlbHit := rfl
@[simp] theorem State.onPtHit_resPageFault (f : Frame) : (s.onPtHit f).resPageFault = false := rfl
@[simp] theorem State.onPtHit_phase (f : Frame) : (s.onPtHit f).phase = s.phase := rfl
@[simp] theorem State.onPtHit_errCause (f : Frame) : (s.onPtHit f).errCause = s.errCause := rfl
@[simp] theorem State.onPtHit_errPage (f : Frame) : (s.onPtHit f).errPage = s.errPage := rfl
@[simp] theorem State.onPtHit_losses (f : Frame) : (s.onPtHit f).losses = s.losses := rfl

/-! ### withAllocation -/

@[simp] theorem State.withAllocation_params (a : Allocation) : (s.withAllocation a).params = s.params := rfl
@[simp] theorem State.withAllocation_level (a : Allocation) : (s.withAllocation a).level = s.level := rfl
@[simp] theorem State.withAllocation_store (a : Allocation) : (s.withAllocation a).store = s.store := rfl
@[simp] theorem State.withAllocation_resetPin (a : Allocation) : (s.withAllocation a).resetPin = s.resetPin := rfl
@[simp] theorem State.withAllocation_requests (a : Allocation) : (s.withAllocation a).requests = s.requests := rfl
@[simp] theorem State.withAllocation_respReady (a : Allocation) : (s.withAllocation a).respReady = s.respReady := rfl
@[simp] theorem State.withAllocation_answers (a : Allocation) : (s.withAllocation a).answers = s.answers := rfl
@[simp] theorem State.withAllocation_delivered (a : Allocation) : (s.withAllocation a).delivered = s.delivered := rfl
@[simp] theorem State.withAllocation_tlb (a : Allocation) : (s.withAllocation a).tlb = s.tlb := rfl
@[simp] theorem State.withAllocation_pt (a : Allocation) : (s.withAllocation a).pt = a.pt := rfl
@[simp] theorem State.withAllocation_rq (a : Allocation) : (s.withAllocation a).rq = a.rq := rfl
@[simp] theorem State.withAllocation_allocCount (a : Allocation) : (s.withAllocation a).allocCount = a.allocCount := rfl
@[simp] theorem State.withAllocation_mem (a : Allocation) : (s.withAllocation a).mem = s.mem := rfl
@[simp] theorem State.withAllocation_reqVaddr (a : Allocation) : (s.withAllocation a).reqVaddr = s.reqVaddr := rfl
@[simp] theorem State.withAllocation_curPage (a : Allocation) : (s.withAllocation a).curPage = s.curPage := rfl
@[simp] theorem State.withAllocation_curOffset (a : Allocation) : (s.withAllocation a).curOffset = s.curOffset := rfl
@[simp] theorem State.withAllocation_curFrame (a : Allocation) : (s.withAllocation a).curFrame = a.frame := rfl
@[simp] theorem State.withAllocation_evictValid (a : Allocation) : (s.withAllocation a).evictValid = a.evicted.isSome := rfl
@[simp] theorem State.withAllocation_evictPage (a : Allocation) : (s.withAllocation a).evictPage = a.evicted.getD s.evictPage := rfl
@[simp] theorem State.withAllocation_resPaddr (a : Allocation) : (s.withAllocation a).resPaddr = s.resPaddr := rfl
@[simp] theorem State.withAllocation_resValue (a : Allocation) : (s.withAllocation a).resValue = s.resValue := rfl
@[simp] theorem State.withAllocation_resTlbHit (a : Allocation) : (s.withAllocation a).resTlbHit = s.resTlbHit := rfl
@[simp] theorem State.withAllocation_resPageFault (a : Allocation) : (s.withAllocation a).resPageFault = s.resPageFault := rfl
@[simp] theorem State.withAllocation_phase (a : Allocation) : (s.withAllocation a).phase = s.phase := rfl
@[simp] theorem State.withAllocation_errCause (a : Allocation) : (s.withAllocation a).errCause = s.errCause := rfl
@[simp] theorem State.withAllocation_errPage (a : Allocation) : (s.withAllocation a).errPage = s.errPage := rfl
@[simp] theorem State.withAllocation_losses (a : Allocation) : (s.withAllocation a).losses = s.losses := rfl

/-! ### invalidateTlb -/

@[simp] theorem State.invalidateTlb_params : (s.invalidateTlb).params = s.params := rfl
@[simp] theorem State.invalidateTlb_level : (s.invalidateTlb).level = s.level := rfl
@[simp] theorem State.invalidateTlb_store : (s.invalidateTlb).store = s.store := rfl
@[simp] theorem State.invalidateTlb_resetPin : (s.invalidateTlb).resetPin = s.resetPin := rfl
@[simp] theorem State.invalidateTlb_requests : (s.invalidateTlb).requests = s.requests := rfl
@[simp] theorem State.invalidateTlb_respReady : (s.invalidateTlb).respReady = s.respReady := rfl
@[simp] theorem State.invalidateTlb_answers : (s.invalidateTlb).answers = s.answers := rfl
@[simp] theorem State.invalidateTlb_delivered : (s.invalidateTlb).delivered = s.delivered := rfl
@[simp] theorem State.invalidateTlb_tlb : (s.invalidateTlb).tlb = tlbRemove s.tlb s.evictPage := rfl
@[simp] theorem State.invalidateTlb_pt : (s.invalidateTlb).pt = s.pt := rfl
@[simp] theorem State.invalidateTlb_rq : (s.invalidateTlb).rq = s.rq := rfl
@[simp] theorem State.invalidateTlb_allocCount : (s.invalidateTlb).allocCount = s.allocCount := rfl
@[simp] theorem State.invalidateTlb_mem : (s.invalidateTlb).mem = s.mem := rfl
@[simp] theorem State.invalidateTlb_reqVaddr : (s.invalidateTlb).reqVaddr = s.reqVaddr := rfl
@[simp] theorem State.invalidateTlb_curPage : (s.invalidateTlb).curPage = s.curPage := rfl
@[simp] theorem State.invalidateTlb_curOffset : (s.invalidateTlb).curOffset = s.curOffset := rfl
@[simp] theorem State.invalidateTlb_curFrame : (s.invalidateTlb).curFrame = s.curFrame := rfl
@[simp] theorem State.invalidateTlb_evictValid : (s.invalidateTlb).evictValid = s.evictValid := rfl
@[simp] theorem State.invalidateTlb_evictPage : (s.invalidateTlb).evictPage = s.evictPage := rfl
@[simp] theorem State.invalidateTlb_resPaddr : (s.invalidateTlb).resPaddr = s.resPaddr := rfl
@[simp] theorem State.invalidateTlb_resValue : (s.invalidateTlb).resValue = s.resValue := rfl
@[simp] theorem State.invalidateTlb_resTlbHit : (s.invalidateTlb).resTlbHit = s.resTlbHit := rfl
@[simp] theorem State.invalidateTlb_resPageFault : (s.invalidateTlb).resPageFault = s.resPageFault := rfl
@[simp] theorem State.invalidateTlb_phase : (s.invalidateTlb).phase = s.phase := rfl
@[simp] theorem State.invalidateTlb_errCause : (s.invalidateTlb).errCause = s.errCause := rfl
@[simp] theorem State.invalidateTlb_errPage : (s.invalidateTlb).errPage = s.errPage := rfl
@[simp] theorem State.invalidateTlb_losses : (s.invalidateTlb).losses = s.losses := rfl

/-! ### insertTlb -/

@[simp] theorem State.insertTlb_params : (s.insertTlb).params = s.params := rfl
@[simp] theorem State.insertTlb_level : (s.insertTlb).level = s.level := rfl
@[simp] theorem State.insertTlb_store : (s.insertTlb).store = s.store := rfl
@[simp] theorem State.insertTlb_resetPin : (s.insertTlb).resetPin = s.resetPin := rfl
@[simp] theorem State.insertTlb_requests : (s.insertTlb).requests = s.requests := rfl
@[simp] theorem State.insertTlb_respReady : (s.insertTlb).respReady = s.respReady := rfl
@[simp] theorem State.insertTlb_answers : (s.insertTlb).answers = s.answers := rfl
@[simp] theorem State.insertTlb_delivered : (s.insertTlb).delivered = s.delivered := rfl
@[simp] theorem State.insertTlb_tlb : (s.insertTlb).tlb = tlbPush s.params.tlbSize s.tlb s.curPage s.curFrame := rfl
@[simp] theorem State.insertTlb_pt : (s.insertTlb).pt = s.pt := rfl
@[simp] theorem State.insertTlb_rq : (s.insertTlb).rq = s.rq := rfl
@[simp] theorem State.insertTlb_allocCount : (s.insertTlb).allocCount = s.allocCount := rfl
@[simp] theorem State.insertTlb_mem : (s.insertTlb).mem = s.mem := rfl
@[simp] theorem State.insertTlb_reqVaddr : (s.insertTlb).reqVaddr = s.reqVaddr := rfl
@[simp] theorem State.insertTlb_curPage : (s.insertTlb).curPage = s.curPage := rfl
@[simp] theorem State.insertTlb_curOffset : (s.insertTlb).curOffset = s.curOffset := rfl
@[simp] theorem State.insertTlb_curFrame : (s.insertTlb).curFrame = s.curFrame := rfl
@[simp] theorem State.insertTlb_evictValid : (s.insertTlb).evictValid = s.evictValid := rfl
@[simp] theorem State.insertTlb_evictPage : (s.insertTlb).evictPage = s.evictPage := rfl
@[simp] theorem State.insertTlb_resPaddr : (s.insertTlb).resPaddr = s.resPaddr := rfl
@[simp] theorem State.insertTlb_resValue : (s.insertTlb).resValue = s.resValue := rfl
@[simp] theorem State.insertTlb_resTlbHit : (s.insertTlb).resTlbHit = s.resTlbHit := rfl
@[simp] theorem State.insertTlb_resPageFault : (s.insertTlb).resPageFault = s.resPageFault := rfl
@[simp] theorem State.insertTlb_phase : (s.insertTlb).phase = s.phase := rfl
@[simp] theorem State.insertTlb_errCause : (s.insertTlb).errCause = s.errCause := rfl
@[simp] theorem State.insertTlb_errPage : (s.insertTlb).errPage = s.errPage := rfl
@[simp] theorem State.insertTlb_losses : (s.insertTlb).losses = s.losses := rfl

/-! ### combinePa -/

@[simp] theorem State.combinePa_params : (s.combinePa).params = s.params := rfl
@[simp] theorem State.combinePa_level : (s.combinePa).level = s.level := rfl
@[simp] theorem State.combinePa_store : (s.combinePa).store = s.store := rfl
@[simp] theorem State.combinePa_resetPin : (s.combinePa).resetPin = s.resetPin := rfl
@[simp] theorem State.combinePa_requests : (s.combinePa).requests = s.requests := rfl
@[simp] theorem State.combinePa_respReady : (s.combinePa).respReady = s.respReady := rfl
@[simp] theorem State.combinePa_answers : (s.combinePa).answers = s.answers := rfl
@[simp] theorem State.combinePa_delivered : (s.combinePa).delivered = s.delivered := rfl
@[simp] theorem State.combinePa_tlb : (s.combinePa).tlb = s.tlb := rfl
@[simp] theorem State.combinePa_pt : (s.combinePa).pt = s.pt := rfl
@[simp] theorem State.combinePa_rq : (s.combinePa).rq = s.rq := rfl
@[simp] theorem State.combinePa_allocCount : (s.combinePa).allocCount = s.allocCount := rfl
@[simp] theorem State.combinePa_mem : (s.combinePa).mem = s.mem := rfl
@[simp] theorem State.combinePa_reqVaddr : (s.combinePa).reqVaddr = s.reqVaddr := rfl
@[simp] theorem State.combinePa_curPage : (s.combinePa).curPage = s.curPage := rfl
@[simp] theorem State.combinePa_curOffset : (s.combinePa).curOffset = s.curOffset := rfl
@[simp] theorem State.combinePa_curFrame : (s.combinePa).curFrame = s.curFrame := rfl
@[simp] theorem State.combinePa_evictValid : (s.combinePa).evictValid = s.evictValid := rfl
@[simp] theorem State.combinePa_evictPage : (s.combinePa).evictPage = s.evictPage := rfl
@[simp] theorem State.combinePa_resPaddr : (s.combinePa).resPaddr = combine s.curFrame s.curOffset := rfl
@[simp] theorem State.combinePa_resValue : (s.combinePa).resValue = s.resValue := rfl
@[simp] theorem State.combinePa_resTlbHit : (s.combinePa).resTlbHit = s.resTlbHit := rfl
@[simp] theorem State.combinePa_resPageFault : (s.combinePa).resPageFault = s.resPageFault := rfl
@[simp] theorem State.combinePa_phase : (s.combinePa).phase = s.phase := rfl
@[simp] theorem State.combinePa_errCause : (s.combinePa).errCause = s.errCause := rfl
@[simp] theorem State.combinePa_errPage : (s.combinePa).errPage = s.errPage := rfl
@[simp] theorem State.combinePa_losses : (s.combinePa).losses = s.losses := rfl

/-! ### loseTransaction -/

@[simp] theorem State.loseTransaction_params : (s.loseTransaction).params = s.params := rfl
@[simp] theorem State.loseTransaction_level : (s.loseTransaction).level = s.level := rfl
@[simp] theorem State.loseTransaction_store : (s.loseTransaction).store = s.store := rfl
@[simp] theorem State.loseTransaction_resetPin : (s.loseTransaction).resetPin = s.resetPin := rfl
@[simp] theorem State.loseTransaction_requests : (s.loseTransaction).requests = s.requests := rfl
@[simp] theorem State.loseTransaction_respReady : (s.loseTransaction).respReady = s.respReady := rfl
@[simp] theorem State.loseTransaction_answers : (s.loseTransaction).answers = s.answers := rfl
@[simp] theorem State.loseTransaction_delivered : (s.loseTransaction).delivered = s.delivered := rfl
@[simp] theorem State.loseTransaction_tlb : (s.loseTransaction).tlb = s.tlb := rfl
@[simp] theorem State.loseTransaction_pt : (s.loseTransaction).pt = s.pt := rfl
@[simp] theorem State.loseTransaction_rq : (s.loseTransaction).rq = s.rq := rfl
@[simp] theorem State.loseTransaction_allocCount : (s.loseTransaction).allocCount = s.allocCount := rfl
@[simp] theorem State.loseTransaction_mem : (s.loseTransaction).mem = s.mem := rfl
@[simp] theorem State.loseTransaction_reqVaddr : (s.loseTransaction).reqVaddr = Config.lostBits s.losses 0 := rfl
@[simp] theorem State.loseTransaction_curPage : (s.loseTransaction).curPage = (Config.lostBits s.losses 1).setWidth 8 := rfl
@[simp] theorem State.loseTransaction_curOffset : (s.loseTransaction).curOffset = (Config.lostBits s.losses 2).setWidth 8 := rfl
@[simp] theorem State.loseTransaction_curFrame : (s.loseTransaction).curFrame = (Config.lostBits s.losses 3).setWidth 8 := rfl
@[simp] theorem State.loseTransaction_evictValid : (s.loseTransaction).evictValid = (Config.lostBits s.losses 4).getLsbD 0 := rfl
@[simp] theorem State.loseTransaction_evictPage : (s.loseTransaction).evictPage = (Config.lostBits s.losses 5).setWidth 8 := rfl
@[simp] theorem State.loseTransaction_resPaddr : (s.loseTransaction).resPaddr = Config.lostBits s.losses 6 := rfl
@[simp] theorem State.loseTransaction_resValue : (s.loseTransaction).resValue = (Config.lostBits s.losses 7).setWidth 8 := rfl
@[simp] theorem State.loseTransaction_resTlbHit : (s.loseTransaction).resTlbHit = (Config.lostBits s.losses 8).getLsbD 0 := rfl
@[simp] theorem State.loseTransaction_resPageFault : (s.loseTransaction).resPageFault = (Config.lostBits s.losses 9).getLsbD 0 := rfl
@[simp] theorem State.loseTransaction_phase : (s.loseTransaction).phase = s.phase := rfl
@[simp] theorem State.loseTransaction_errCause : (s.loseTransaction).errCause = s.errCause := rfl
@[simp] theorem State.loseTransaction_errPage : (s.loseTransaction).errPage = s.errPage := rfl
@[simp] theorem State.loseTransaction_losses : (s.loseTransaction).losses = s.losses + 1 := rfl

/-! ### deliver -/

@[simp] theorem State.deliver_params : (s.deliver).params = s.params := rfl
@[simp] theorem State.deliver_level : (s.deliver).level = s.level := rfl
@[simp] theorem State.deliver_store : (s.deliver).store = s.store := rfl
@[simp] theorem State.deliver_resetPin : (s.deliver).resetPin = s.resetPin := rfl
@[simp] theorem State.deliver_requests : (s.deliver).requests = s.requests := rfl
@[simp] theorem State.deliver_respReady : (s.deliver).respReady = s.respReady := rfl
@[simp] theorem State.deliver_answers : (s.deliver).answers = s.answers := rfl
@[simp] theorem State.deliver_delivered : (s.deliver).delivered = s.delivered ++ [s.result] := rfl
@[simp] theorem State.deliver_tlb : (s.deliver).tlb = s.tlb := rfl
@[simp] theorem State.deliver_pt : (s.deliver).pt = s.pt := rfl
@[simp] theorem State.deliver_rq : (s.deliver).rq = s.rq := rfl
@[simp] theorem State.deliver_allocCount : (s.deliver).allocCount = s.allocCount := rfl
@[simp] theorem State.deliver_mem : (s.deliver).mem = s.mem := rfl
@[simp] theorem State.deliver_reqVaddr : (s.deliver).reqVaddr = Config.lostBits s.losses 0 := rfl
@[simp] theorem State.deliver_curPage : (s.deliver).curPage = (Config.lostBits s.losses 1).setWidth 8 := rfl
@[simp] theorem State.deliver_curOffset : (s.deliver).curOffset = (Config.lostBits s.losses 2).setWidth 8 := rfl
@[simp] theorem State.deliver_curFrame : (s.deliver).curFrame = (Config.lostBits s.losses 3).setWidth 8 := rfl
@[simp] theorem State.deliver_evictValid : (s.deliver).evictValid = (Config.lostBits s.losses 4).getLsbD 0 := rfl
@[simp] theorem State.deliver_evictPage : (s.deliver).evictPage = (Config.lostBits s.losses 5).setWidth 8 := rfl
@[simp] theorem State.deliver_resPaddr : (s.deliver).resPaddr = Config.lostBits s.losses 6 := rfl
@[simp] theorem State.deliver_resValue : (s.deliver).resValue = (Config.lostBits s.losses 7).setWidth 8 := rfl
@[simp] theorem State.deliver_resTlbHit : (s.deliver).resTlbHit = (Config.lostBits s.losses 8).getLsbD 0 := rfl
@[simp] theorem State.deliver_resPageFault : (s.deliver).resPageFault = (Config.lostBits s.losses 9).getLsbD 0 := rfl
@[simp] theorem State.deliver_phase : (s.deliver).phase = .idle := rfl
@[simp] theorem State.deliver_errCause : (s.deliver).errCause = s.errCause := rfl
@[simp] theorem State.deliver_errPage : (s.deliver).errPage = s.errPage := rfl
@[simp] theorem State.deliver_losses : (s.deliver).losses = s.losses + 1 := rfl

/-! ### takeBackingStoreFault -/

@[simp] theorem State.takeBackingStoreFault_params (k : FailKind) (p : Page) : (s.takeBackingStoreFault k p).params = s.params := rfl
@[simp] theorem State.takeBackingStoreFault_level (k : FailKind) (p : Page) : (s.takeBackingStoreFault k p).level = s.level := rfl
@[simp] theorem State.takeBackingStoreFault_store (k : FailKind) (p : Page) : (s.takeBackingStoreFault k p).store = s.store := rfl
@[simp] theorem State.takeBackingStoreFault_resetPin (k : FailKind) (p : Page) : (s.takeBackingStoreFault k p).resetPin = s.resetPin := rfl
@[simp] theorem State.takeBackingStoreFault_requests (k : FailKind) (p : Page) : (s.takeBackingStoreFault k p).requests = s.requests := rfl
@[simp] theorem State.takeBackingStoreFault_respReady (k : FailKind) (p : Page) : (s.takeBackingStoreFault k p).respReady = s.respReady := rfl
@[simp] theorem State.takeBackingStoreFault_answers (k : FailKind) (p : Page) : (s.takeBackingStoreFault k p).answers = s.answers := rfl
@[simp] theorem State.takeBackingStoreFault_delivered (k : FailKind) (p : Page) : (s.takeBackingStoreFault k p).delivered = s.delivered := rfl
@[simp] theorem State.takeBackingStoreFault_tlb (k : FailKind) (p : Page) : (s.takeBackingStoreFault k p).tlb = s.tlb := rfl
@[simp] theorem State.takeBackingStoreFault_pt (k : FailKind) (p : Page) : (s.takeBackingStoreFault k p).pt = s.pt := rfl
@[simp] theorem State.takeBackingStoreFault_rq (k : FailKind) (p : Page) : (s.takeBackingStoreFault k p).rq = s.rq := rfl
@[simp] theorem State.takeBackingStoreFault_allocCount (k : FailKind) (p : Page) : (s.takeBackingStoreFault k p).allocCount = s.allocCount := rfl
@[simp] theorem State.takeBackingStoreFault_mem (k : FailKind) (p : Page) : (s.takeBackingStoreFault k p).mem = s.mem.erase (frameBase s.curFrame) pageSize := rfl
@[simp] theorem State.takeBackingStoreFault_reqVaddr (k : FailKind) (p : Page) : (s.takeBackingStoreFault k p).reqVaddr = Config.lostBits s.losses 0 := rfl
@[simp] theorem State.takeBackingStoreFault_curPage (k : FailKind) (p : Page) : (s.takeBackingStoreFault k p).curPage = (Config.lostBits s.losses 1).setWidth 8 := rfl
@[simp] theorem State.takeBackingStoreFault_curOffset (k : FailKind) (p : Page) : (s.takeBackingStoreFault k p).curOffset = (Config.lostBits s.losses 2).setWidth 8 := rfl
@[simp] theorem State.takeBackingStoreFault_curFrame (k : FailKind) (p : Page) : (s.takeBackingStoreFault k p).curFrame = (Config.lostBits s.losses 3).setWidth 8 := rfl
@[simp] theorem State.takeBackingStoreFault_evictValid (k : FailKind) (p : Page) : (s.takeBackingStoreFault k p).evictValid = (Config.lostBits s.losses 4).getLsbD 0 := rfl
@[simp] theorem State.takeBackingStoreFault_evictPage (k : FailKind) (p : Page) : (s.takeBackingStoreFault k p).evictPage = (Config.lostBits s.losses 5).setWidth 8 := rfl
@[simp] theorem State.takeBackingStoreFault_resPaddr (k : FailKind) (p : Page) : (s.takeBackingStoreFault k p).resPaddr = Config.lostBits s.losses 6 := rfl
@[simp] theorem State.takeBackingStoreFault_resValue (k : FailKind) (p : Page) : (s.takeBackingStoreFault k p).resValue = (Config.lostBits s.losses 7).setWidth 8 := rfl
@[simp] theorem State.takeBackingStoreFault_resTlbHit (k : FailKind) (p : Page) : (s.takeBackingStoreFault k p).resTlbHit = (Config.lostBits s.losses 8).getLsbD 0 := rfl
@[simp] theorem State.takeBackingStoreFault_resPageFault (k : FailKind) (p : Page) : (s.takeBackingStoreFault k p).resPageFault = (Config.lostBits s.losses 9).getLsbD 0 := rfl
@[simp] theorem State.takeBackingStoreFault_phase (k : FailKind) (p : Page) : (s.takeBackingStoreFault k p).phase = .halt := rfl
@[simp] theorem State.takeBackingStoreFault_errCause (k : FailKind) (p : Page) : (s.takeBackingStoreFault k p).errCause = causeOf k := rfl
@[simp] theorem State.takeBackingStoreFault_errPage (k : FailKind) (p : Page) : (s.takeBackingStoreFault k p).errPage = p := rfl
@[simp] theorem State.takeBackingStoreFault_losses (k : FailKind) (p : Page) : (s.takeBackingStoreFault k p).losses = s.losses + 1 := rfl

/-! ### afterReset -/

@[simp] theorem State.afterReset_params : (s.afterReset).params = s.params := rfl
@[simp] theorem State.afterReset_level : (s.afterReset).level = s.level := rfl
@[simp] theorem State.afterReset_store : (s.afterReset).store = s.store := rfl
@[simp] theorem State.afterReset_resetPin : (s.afterReset).resetPin = s.resetPin := rfl
@[simp] theorem State.afterReset_requests : (s.afterReset).requests = s.requests := rfl
@[simp] theorem State.afterReset_respReady : (s.afterReset).respReady = s.respReady := rfl
@[simp] theorem State.afterReset_answers : (s.afterReset).answers = s.answers := rfl
@[simp] theorem State.afterReset_delivered : (s.afterReset).delivered = s.delivered := rfl
@[simp] theorem State.afterReset_tlb : (s.afterReset).tlb = [] := rfl
@[simp] theorem State.afterReset_pt : (s.afterReset).pt = Vector.replicate 256 none := rfl
@[simp] theorem State.afterReset_rq : (s.afterReset).rq = [] := rfl
@[simp] theorem State.afterReset_allocCount : (s.afterReset).allocCount = 0 := rfl
@[simp] theorem State.afterReset_mem : (s.afterReset).mem = [] := rfl
@[simp] theorem State.afterReset_reqVaddr : (s.afterReset).reqVaddr = 0 := rfl
@[simp] theorem State.afterReset_curPage : (s.afterReset).curPage = 0 := rfl
@[simp] theorem State.afterReset_curOffset : (s.afterReset).curOffset = 0 := rfl
@[simp] theorem State.afterReset_curFrame : (s.afterReset).curFrame = 0 := rfl
@[simp] theorem State.afterReset_evictValid : (s.afterReset).evictValid = false := rfl
@[simp] theorem State.afterReset_evictPage : (s.afterReset).evictPage = 0 := rfl
@[simp] theorem State.afterReset_resPaddr : (s.afterReset).resPaddr = 0 := rfl
@[simp] theorem State.afterReset_resValue : (s.afterReset).resValue = 0 := rfl
@[simp] theorem State.afterReset_resTlbHit : (s.afterReset).resTlbHit = false := rfl
@[simp] theorem State.afterReset_resPageFault : (s.afterReset).resPageFault = false := rfl
@[simp] theorem State.afterReset_phase : (s.afterReset).phase = .idle := rfl
@[simp] theorem State.afterReset_errCause : (s.afterReset).errCause = .none := rfl
@[simp] theorem State.afterReset_errPage : (s.afterReset).errPage = 0 := rfl
@[simp] theorem State.afterReset_losses : (s.afterReset).losses = s.losses := rfl

/-! ### goto and respond, which branch -/

/-- A state that is in a phase stays as it is when it is sent there. -/
theorem State.goto_self (p : Phase) (h : s.phase = p) : s.goto p = s := by subst h; rfl

/-- RESPOND with the driver ready delivers. -/
theorem State.respond_ready (h : s.respReady = true) : s.respond = s.deliver := by simp [State.respond, h]

/-- RESPOND with the driver not ready stands in `RESP`. -/
theorem State.respond_notReady (h : s.respReady = false) : s.respond = s.goto .resp := by
  simp [State.respond, h]

end Sys2Proof.Machine
end

