-- ==== Sys2Proof/Laws/Ops.lean ====
section
/-! SUPPORT. For each shared operation over the tables and the registers, what it can do. -/

namespace Sys2Proof.Machine

/-! ## Operands -/

/-- The page and the offset of an address are its two bytes (R151): the split loses nothing. -/
theorem split_join (va : Vaddr) : pageOf va ++ offsetOf va = va := by
  apply BitVec.eq_of_toNat_eq
  have := va.isLt
  simp only [pageOf, offsetOf, BitVec.toNat_append, BitVec.extractLsb'_toNat, Nat.shiftRight_zero]
  rw [← Nat.shiftLeft_add_eq_or_of_lt (Nat.mod_lt _ (by norm_num)), Nat.shiftLeft_eq, Nat.shiftRight_eq_div_pow]
  omega

@[simp] theorem pageOf_join (p : Page) (o : Offset) : pageOf (p ++ o) = p := by
  apply BitVec.eq_of_toNat_eq
  have := p.isLt
  have := o.isLt
  simp only [pageOf, BitVec.toNat_append, BitVec.extractLsb'_toNat]
  rw [← Nat.shiftLeft_add_eq_or_of_lt o.isLt, Nat.shiftLeft_eq, Nat.shiftRight_eq_div_pow]
  omega

@[simp] theorem offsetOf_join (p : Page) (o : Offset) : offsetOf (p ++ o) = o := by
  apply BitVec.eq_of_toNat_eq
  have := p.isLt
  have := o.isLt
  simp only [offsetOf, BitVec.toNat_append, BitVec.extractLsb'_toNat]
  rw [← Nat.shiftLeft_add_eq_or_of_lt o.isLt, Nat.shiftLeft_eq, Nat.shiftRight_zero]
  omega

/-- `{f, o}` is `f × 256 + o` (R103, R156), without overflow (R175). -/
theorem combine_toNat (f : Frame) (o : Offset) : (combine f o).toNat = frameBase f + o.toNat := by
  simp only [combine, frameBase, BitVec.toNat_append]
  rw [← Nat.shiftLeft_add_eq_or_of_lt o.isLt, Nat.shiftLeft_eq]

/-- A frame below `NUM_FRAMES` has its addresses below `MEM_BYTES` (R62). -/
theorem combine_lt_memBytes {c : Params} {f : Frame} (h : f.toNat < c.numFrames) (o : Offset) :
    (combine f o).toNat < c.memBytes := by
  have := o.isLt
  rw [combine_toNat, frameBase, Params.memBytes]
  simp only [pageSize]
  omega

/-! ## The TLB -/

theorem tlbFind_eq_none_iff {tlb : List Entry} {p : Page} : tlbFind tlb p = none ↔ ∀ e ∈ tlb, e.page ≠ p := by
  induction tlb with
  | nil => simp [tlbFind]
  | cons e tlb ih => by_cases h : e.page = p <;> simp [tlbFind, h, ih]

theorem tlbFind_mem {tlb : List Entry} {p : Page} {f : Frame} (h : tlbFind tlb p = some f) :
    Entry.mk p f ∈ tlb := by
  induction tlb with
  | nil => simp [tlbFind] at h
  | cons e tlb ih =>
    by_cases hp : e.page = p
    · have hf : e.frame = f := by simpa [tlbFind, hp] using h
      subst hp hf
      exact List.mem_cons_self
    · simp only [tlbFind, hp, if_false] at h
      exact List.mem_cons_of_mem _ (ih h)

theorem tlbFind_append (l l' : List Entry) (p : Page) : tlbFind (l ++ l') p = (tlbFind l p).or (tlbFind l' p) := by
  induction l with
  | nil => simp [tlbFind]
  | cons e l ih => by_cases h : e.page = p <;> simp [tlbFind, h, ih]

/-- Where no entry of the TLB is for the page, the inserted entry is the one found. -/
theorem tlbFind_push {size : Nat} {tlb : List Entry} {p : Page} (f : Frame) (h : ∀ e ∈ tlb, e.page ≠ p) :
    tlbFind (tlbPush size tlb p f) p = some f := by
  rw [tlbPush, tlbFind_append]
  have : tlbFind (if tlb.length = size then tlb.tail else tlb) p = none := by
    rw [tlbFind_eq_none_iff]
    split
    · exact fun e he => h e (List.mem_of_mem_tail he)
    · exact h
  rw [this]
  simp [tlbFind]

/-- TLB.INSERT keeps the capacity (R50, R112). -/
theorem tlbPush_length_le {size : Nat} {tlb : List Entry} (h : tlb.length ≤ size) (hs : 1 ≤ size) (p : Page)
    (f : Frame) : (tlbPush size tlb p f).length ≤ size := by
  unfold tlbPush
  split <;> simp <;> omega

theorem mem_tlbPush {size : Nat} {tlb : List Entry} {p : Page} {f : Frame} {e : Entry}
    (h : e ∈ tlbPush size tlb p f) : e ∈ tlb ∨ e = Entry.mk p f := by
  unfold tlbPush at h
  rcases List.mem_append.mp h with h | h
  · split at h
    · exact .inl (List.mem_of_mem_tail h)
    · exact .inl h
  · exact .inr (by simpa using h)

theorem pushed_mem_tlbPush (size : Nat) (tlb : List Entry) (p : Page) (f : Frame) :
    Entry.mk p f ∈ tlbPush size tlb p f := by simp [tlbPush]

theorem mem_tlbRemove {tlb : List Entry} {v : Page} {e : Entry} : e ∈ tlbRemove tlb v ↔ e ∈ tlb ∧ e.page ≠ v := by
  simp [tlbRemove]

/-! ## The page table -/

theorem ptGet_ptSet (pt : PageTable) (p q : Page) (v : Option Frame) :
    ptGet (ptSet pt p v) q = if q = p then v else ptGet pt q := by
  unfold ptGet ptSet
  by_cases h : q = p
  · subst h; simp
  · have : p.toNat ≠ q.toNat := fun e => h (BitVec.eq_of_toNat_eq e.symm)
    simp [h, this]

@[simp] theorem ptGet_empty (p : Page) : ptGet (Vector.replicate 256 none) p = none := by simp [ptGet]

/-- What PT.ALLOC can answer (R132 to R135). -/
theorem ptAllocate_cases (c : Params) (pt : PageTable) (rq : List Entry) (count : Nat) (p : Page) :
    (∃ f, ptGet pt p = some f ∧ ptAllocate c pt rq count p = .error (.allocOnResidentPage p)) ∨
    (ptGet pt p = none ∧ count < c.numFrames ∧
      ptAllocate c pt rq count p =
        .ok ⟨ptSet pt p (some (BitVec.ofNat 8 count)), rq ++ [Entry.mk p (BitVec.ofNat 8 count)], count + 1,
          BitVec.ofNat 8 count, none⟩) ∨
    (ptGet pt p = none ∧ c.numFrames ≤ count ∧ rq = [] ∧
      ptAllocate c pt rq count p = .error .emptyReplacementQueue) ∨
    (∃ victim rest, ptGet pt p = none ∧ c.numFrames ≤ count ∧ rq = victim :: rest ∧
      ptAllocate c pt rq count p =
        .ok ⟨ptSet (ptSet pt victim.page none) p (some victim.frame), rest ++ [Entry.mk p victim.frame], count,
          victim.frame, some victim.page⟩) := by
  cases h : ptGet pt p with
  | some f => exact .inl ⟨f, rfl, by simp [ptAllocate, h]⟩
  | none =>
    by_cases hc : count < c.numFrames
    · exact .inr (.inl ⟨rfl, hc, by simp [ptAllocate, h, hc]⟩)
    · cases rq with
      | nil => exact .inr (.inr (.inl ⟨rfl, by omega, rfl, by simp [ptAllocate, h, hc]⟩))
      | cons victim rest =>
        exact .inr (.inr (.inr ⟨victim, rest, rfl, by omega, rfl, by simp [ptAllocate, h, hc]⟩))

/-- PT.ALLOC on the machine answers a state exactly where it answers an allocation. -/
theorem State.allocate_ok {s t : State} (h : s.allocate = .ok t) :
    ∃ a, ptAllocate s.params s.pt s.rq s.allocCount s.curPage = .ok a ∧ t = s.withAllocation a := by
  unfold State.allocate at h
  split at h
  · exact absurd h (by simp)
  · rename_i a ha
    exact ⟨a, ha, by simpa using h.symm⟩

/-! ## The fill, the read and the response -/

/-- What a backing-store read can answer (R192, R206). -/
theorem bsReadPage_cases (c : Params) (store : Memory) (a : ReaderAnswer) (p : Page) :
    (c.bsPages ≤ p.toNat ∧ bsReadPage c store a p = .error .unreachableOffset) ∨
    (p.toNat < c.bsPages ∧ a = .ok ∧ bsReadPage c store a p = .ok (storePage store p)) ∨
    (∃ k, p.toNat < c.bsPages ∧ a = .err k ∧ bsReadPage c store a p = .error k) := by
  by_cases h : c.bsPages ≤ p.toNat
  · exact .inl ⟨h, by simp [bsReadPage, h]⟩
  · cases a with
    | ok => exact .inr (.inl ⟨by omega, rfl, by simp [bsReadPage, h]⟩)
    | err k => exact .inr (.inr ⟨k, by omega, rfl, by simp [bsReadPage, h]⟩)

/-- What one attempt at BS.FILL can do (R157, R199). -/
theorem State.fill_cases (s : State) :
    (s.answers = [] ∧ s.fill = .waiting) ∨
    (∃ a rest k, s.answers = a :: rest ∧ bsReadPage s.params s.store a s.curPage = .error k ∧
      s.fill = .failed (s.useAnswer.takeBackingStoreFault k s.curPage)) ∨
    (∃ rest, s.answers = .ok :: rest ∧ s.curPage.toNat < s.params.bsPages ∧ s.params.numFrames ≤ s.curFrame.toNat ∧
      s.fill = .noFrame (.noSuchAddress (frameBase s.curFrame))) ∨
    (∃ rest, s.answers = .ok :: rest ∧ s.curPage.toNat < s.params.bsPages ∧ s.curFrame.toNat < s.params.numFrames ∧
      s.fill = .filled (s.useAnswer.withMem (s.mem.writeBlock (frameBase s.curFrame) (storePage s.store s.curPage)))) := by
  cases ha : s.answers with
  | nil => exact .inl ⟨rfl, by simp [State.fill, ha]⟩
  | cons a rest =>
    rcases bsReadPage_cases s.params s.store a s.curPage with ⟨_, h⟩ | ⟨hp, rfl, h⟩ | ⟨k, _, _, h⟩
    · exact .inr (.inl ⟨a, rest, _, rfl, h, by simp [State.fill, ha, h]⟩)
    · rcases memWriteFrame_cases s.params s.mem s.curFrame (storePage s.store s.curPage) with ⟨hf, hw⟩ | ⟨hf, hw⟩
      · exact .inr (.inr (.inr ⟨rest, rfl, hp, hf, by simp [State.fill, ha, h, hw]⟩))
      · exact .inr (.inr (.inl ⟨rest, rfl, hp, hf, by simp [State.fill, ha, h, hw]⟩))
    · exact .inr (.inl ⟨a, rest, _, rfl, h, by simp [State.fill, ha, h]⟩)

/-- What MEM.READ can answer (R158). -/
theorem State.readByte_cases (s : State) :
    (∃ b, s.resPaddr.toNat < s.params.memBytes ∧ s.mem.read s.resPaddr.toNat = some b ∧
      s.readByte = .ok (s.withValue b)) ∨
    (∃ r, (s.params.memBytes ≤ s.resPaddr.toNat ∨ s.mem.read s.resPaddr.toNat = none) ∧ s.readByte = .error r) := by
  rcases memRead_cases s.params s.mem s.resPaddr.toNat with ⟨b, h, hb, he⟩ | ⟨_, hb, he⟩ | ⟨h, he⟩
  · exact .inl ⟨b, h, hb, by simp [State.readByte, he]⟩
  · exact .inr ⟨.unwrittenByte s.resPaddr.toNat, .inr hb, by simp [State.readByte, he]⟩
  · exact .inr ⟨.noSuchAddress s.resPaddr.toNat, .inl h, by simp [State.readByte, he]⟩

/-- A TLB slot below the count matches exactly when its entry is for the page. -/
theorem tlbMatch_eq (tlb : List Entry) (p : Page) (i : Nat) :
    tlbMatch tlb p i = true ↔ ∃ e, tlb[i]? = some e ∧ e.page = p := by
  unfold tlbMatch tlbSlot
  cases h : tlb[i]? <;> simp

end Sys2Proof.Machine
end

