-- ==== Sys2Proof/Laws/PerInstr.lean ====
section
/-! SUPPORT. What holds of every instruction as syntax, one lemma per constructor. -/

namespace Sys2Proof.Laws.Format

/-- The encoding of an operation stands at the place of its format (30_encoding.md rule R90): a command on the request
port, a micro-operation among the phase codes 1 to 10, the system operation on the reset pin. -/
def Statement (i : Instr) : Prop :=
  (∃ va, i = .translate va ∧ encode i = .req16 va) ∨
  (∃ c, encode i = .seq4 c ∧ 1 ≤ c.toNat ∧ c.toNat ≤ 10) ∨
  (i = .reset ∧ encode i = .pin 1#1)

theorem translate (va : Vaddr) : Statement (.translate va) := .inl ⟨va, rfl, rfl⟩
theorem vaSplit : Statement .vaSplit := .inr (.inl ⟨1#4, rfl, by decide⟩)
theorem tlbLookup : Statement .tlbLookup := .inr (.inl ⟨2#4, rfl, by decide⟩)
theorem ptLookup : Statement .ptLookup := .inr (.inl ⟨3#4, rfl, by decide⟩)
theorem ptAlloc : Statement .ptAlloc := .inr (.inl ⟨4#4, rfl, by decide⟩)
theorem tlbInval : Statement .tlbInval := .inr (.inl ⟨5#4, rfl, by decide⟩)
theorem bsFill : Statement .bsFill := .inr (.inl ⟨6#4, rfl, by decide⟩)
theorem tlbInsert : Statement .tlbInsert := .inr (.inl ⟨7#4, rfl, by decide⟩)
theorem paCombine : Statement .paCombine := .inr (.inl ⟨8#4, rfl, by decide⟩)
theorem memRead : Statement .memRead := .inr (.inl ⟨9#4, rfl, by decide⟩)
theorem respond : Statement .respond := .inr (.inl ⟨10#4, rfl, by decide⟩)
theorem reset : Statement .reset := .inr (.inr ⟨rfl, rfl⟩)

end Sys2Proof.Laws.Format
end

