-- ==== Sys2Proof/Laws/Step.lean ====
section
/-! SUPPORT. What each meaning and one step of the machine can do. -/

namespace Sys2Proof.Machine

/-! ## Selecting the next operation -/

/-- The reset pin selects RESET before everything else (R198). -/
theorem fetch_inReset {s : State} (h : s.resetPin = true) : fetch s = some .reset := by
  simp [fetch, fetchWord, h, decode, decodePin]

/-- In `IDLE` the request on the port selects TRANSLATE (R91). -/
theorem fetch_idle {s : State} (hr : s.resetPin = false) (hp : s.phase = .idle) :
    fetch s = s.requests.head?.map Instr.translate := by
  cases h : s.requests <;> simp [fetch, fetchWord, hr, hp, h, decode, decodeReq16]

/-- In every other phase the phase code selects (R100). -/
theorem fetch_phase {s : State} (hr : s.resetPin = false) :
    (s.phase = .split → fetch s = some .vaSplit) ∧ (s.phase = .tlbl → fetch s = some .tlbLookup) ∧
    (s.phase = .ptl → fetch s = some .ptLookup) ∧ (s.phase = .alloc → fetch s = some .ptAlloc) ∧
    (s.phase = .inval → fetch s = some .tlbInval) ∧ (s.phase = .fill → fetch s = some .bsFill) ∧
    (s.phase = .tlbi → fetch s = some .tlbInsert) ∧ (s.phase = .comb → fetch s = some .paCombine) ∧
    (s.phase = .read → fetch s = some .memRead) ∧ (s.phase = .resp → fetch s = some .respond) ∧
    (s.phase = .halt → fetch s = none) := by
  refine ⟨?_, ?_, ?_, ?_, ?_, ?_, ?_, ?_, ?_, ?_, ?_⟩ <;> intro hp <;>
    simp [fetch, fetchWord, hr, hp, phaseCode, decode, decodeSeq4]

/-! ## The meanings -/

/-- What TLB.LOOKUP can do (R111). -/
theorem execTlbLookup_cases (s : State) :
    (∃ f, tlbFind s.tlb s.curPage = some f ∧ execTlbLookup s = .next ((s.onTlbHit f).goto .comb)) ∨
    (tlbFind s.tlb s.curPage = none ∧ execTlbLookup s = .next (s.flagTlbMiss.goto .ptl)) := by
  cases h : tlbFind s.tlb s.curPage with
  | some f => exact .inl ⟨f, rfl, by simp [execTlbLookup, h]⟩
  | none => exact .inr ⟨rfl, by simp [execTlbLookup, h]⟩

/-- What PT.LOOKUP can do (R131). -/
theorem execPtLookup_cases (s : State) :
    (∃ f, ptGet s.pt s.curPage = some f ∧ execPtLookup s = .next ((s.onPtHit f).goto .tlbi)) ∨
    (ptGet s.pt s.curPage = none ∧ execPtLookup s = .next ((s.flagPageFault true).goto .alloc)) := by
  cases h : ptGet s.pt s.curPage with
  | some f => exact .inl ⟨f, rfl, by simp [execPtLookup, h]⟩
  | none => exact .inr ⟨rfl, by simp [execPtLookup, h]⟩

/-- What PT.ALLOC can do (R132). -/
theorem execPtAlloc_cases (s : State) :
    (∃ r, s.allocate = .error r ∧ execPtAlloc s = .refused r) ∨
    (∃ t, s.allocate = .ok t ∧
      execPtAlloc s = .next (t.goto (if t.mustInvalidate then .inval else .fill))) := by
  cases h : s.allocate with
  | error r => exact .inl ⟨r, rfl, by simp [execPtAlloc, h]⟩
  | ok t => exact .inr ⟨t, rfl, by simp [execPtAlloc, h]⟩

/-- What MEM.READ can do (R158). -/
theorem execMemRead_cases (s : State) :
    (∃ b, s.resPaddr.toNat < s.params.memBytes ∧ s.mem.read s.resPaddr.toNat = some b ∧
      execMemRead s = .next ((s.withValue b).goto .resp)) ∨
    (∃ r, (s.params.memBytes ≤ s.resPaddr.toNat ∨ s.mem.read s.resPaddr.toNat = none) ∧ execMemRead s = .fault r) := by
  rcases s.readByte_cases with ⟨b, h, hb, he⟩ | ⟨r, h, he⟩
  · exact .inl ⟨b, h, hb, by simp [execMemRead, he]⟩
  · exact .inr ⟨r, h, by simp [execMemRead, he]⟩

/-- How a transaction ends once a frame serves it (R161). -/
theorem translateFinish_cases (s : State) :
    (∃ b, (combine s.curFrame s.curOffset).toNat < s.params.memBytes ∧
      s.mem.read (combine s.curFrame s.curOffset).toNat = some b ∧
      translateFinish s = .next (s.combinePa.withValue b).respond) ∨
    (∃ r, (s.params.memBytes ≤ (combine s.curFrame s.curOffset).toNat ∨
        s.mem.read (combine s.curFrame s.curOffset).toNat = none) ∧ translateFinish s = .fault r) := by
  rcases s.combinePa.readByte_cases with ⟨b, h, hb, he⟩ | ⟨r, h, he⟩
  · exact .inl ⟨b, by simpa using h, by simpa using hb, by simp [translateFinish, he]⟩
  · exact .inr ⟨r, by simpa using h, by simp [translateFinish, he]⟩

/-- What BS.FILL can do (R157, R163). -/
theorem execBsFill_cases (s : State) :
    (s.answers = [] ∧ execBsFill s = .next (s.goto .fill)) ∨
    (∃ a rest k, s.answers = a :: rest ∧ bsReadPage s.params s.store a s.curPage = .error k ∧
      execBsFill s = .next (s.useAnswer.takeBackingStoreFault k s.curPage)) ∨
    (s.params.numFrames ≤ s.curFrame.toNat ∧ execBsFill s = .fault (.noSuchAddress (frameBase s.curFrame))) ∨
    (∃ rest, s.answers = .ok :: rest ∧ s.curPage.toNat < s.params.bsPages ∧ s.curFrame.toNat < s.params.numFrames ∧
      execBsFill s = .next
        ((s.useAnswer.withMem (s.mem.writeBlock (frameBase s.curFrame) (storePage s.store s.curPage))).goto .tlbi)) := by
  rcases s.fill_cases with ⟨h, e⟩ | ⟨a, rest, k, h, hk, e⟩ | ⟨rest, _, _, hf, e⟩ | ⟨rest, h, hp, hf, e⟩
  · exact .inl ⟨h, by simp [execBsFill, e]⟩
  · exact .inr (.inl ⟨a, rest, k, h, hk, by simp [execBsFill, e]⟩)
  · exact .inr (.inr (.inl ⟨hf, by simp [execBsFill, e]⟩))
  · exact .inr (.inr (.inr ⟨rest, h, hp, hf, by simp [execBsFill, e]⟩))

/-- What the page-fault path of a transaction can do from BS.FILL on (R161). Without an answer
of the reader the transaction has not happened (U10). -/
theorem translateFill_cases (before s : State) :
    (s.answers = [] ∧ translateFill before s = .next before) ∨
    (∃ a rest k, s.answers = a :: rest ∧ bsReadPage s.params s.store a s.curPage = .error k ∧
      translateFill before s = .next (s.useAnswer.takeBackingStoreFault k s.curPage)) ∨
    (s.params.numFrames ≤ s.curFrame.toNat ∧ translateFill before s = .fault (.noSuchAddress (frameBase s.curFrame))) ∨
    (∃ rest, s.answers = .ok :: rest ∧ s.curPage.toNat < s.params.bsPages ∧ s.curFrame.toNat < s.params.numFrames ∧
      translateFill before s = translateFinish
        (s.useAnswer.withMem (s.mem.writeBlock (frameBase s.curFrame) (storePage s.store s.curPage))).insertTlb) := by
  rcases s.fill_cases with ⟨h, e⟩ | ⟨a, rest, k, h, hk, e⟩ | ⟨rest, _, _, hf, e⟩ | ⟨rest, h, hp, hf, e⟩
  · exact .inl ⟨h, by simp [translateFill, e]⟩
  · exact .inr (.inl ⟨a, rest, k, h, hk, by simp [translateFill, e]⟩)
  · exact .inr (.inr (.inl ⟨hf, by simp [translateFill, e]⟩))
  · exact .inr (.inr (.inr ⟨rest, h, hp, hf, by simp [translateFill, e]⟩))

/-- What the page-fault path of a transaction can do (R161 step 4). -/
theorem translateFault_cases (before s : State) :
    (∃ r, s.allocate = .error r ∧ translateFault before s = .refused r) ∨
    (∃ a, ptAllocate s.params s.pt s.rq s.allocCount s.curPage = .ok a ∧
      (s.withAllocation a).mustInvalidate = true ∧
      translateFault before s = translateFill before (s.withAllocation a).invalidateTlb) ∨
    (∃ a, ptAllocate s.params s.pt s.rq s.allocCount s.curPage = .ok a ∧
      (s.withAllocation a).mustInvalidate = false ∧ translateFault before s = translateFill before (s.withAllocation a)) := by
  cases h : s.allocate with
  | error r => exact .inl ⟨r, rfl, by simp [translateFault, h]⟩
  | ok t =>
    obtain ⟨a, ha, rfl⟩ := State.allocate_ok h
    cases hm : (s.withAllocation a).mustInvalidate with
    | true => exact .inr (.inl ⟨a, ha, hm, by simp [translateFault, h, hm]⟩)
    | false => exact .inr (.inr ⟨a, ha, hm, by simp [translateFault, h, hm]⟩)

/-- Which of its three ways a TRANSLATE in `IDLE` takes (R161, R162). -/
theorem execTranslate_cases (va : Vaddr) (s : State) (hp : s.phase = .idle) :
    (∃ f, tlbFind s.tlb (pageOf va) = some f ∧
      execTranslate va s = translateFinish ((s.accept va).splitVa.onTlbHit f)) ∨
    (∃ f, tlbFind s.tlb (pageOf va) = none ∧ ptGet s.pt (pageOf va) = some f ∧
      execTranslate va s = translateFinish ((s.accept va).splitVa.flagTlbMiss.onPtHit f).insertTlb) ∨
    (tlbFind s.tlb (pageOf va) = none ∧ ptGet s.pt (pageOf va) = none ∧
      execTranslate va s = translateFault s ((s.accept va).splitVa.flagTlbMiss.flagPageFault true)) := by
  cases h : tlbFind s.tlb (pageOf va) with
  | some f => exact .inl ⟨f, rfl, by simp [execTranslate, hp, translateAccepted, h]⟩
  | none =>
    cases hq : ptGet s.pt (pageOf va) with
    | some f => exact .inr (.inl ⟨f, rfl, rfl, by simp [execTranslate, hp, translateAccepted, h, translateMiss, hq]⟩)
    | none => exact .inr (.inr ⟨rfl, rfl, by simp [execTranslate, hp, translateAccepted, h, translateMiss, hq]⟩)

/-! ## One step -/

/-- What one step can do. -/
theorem step_cases (s : State) :
    (s.params.wf = false ∧ step s = .refused .illegalParameters) ∨
    (s.params.wf = true ∧ s.acceptsOnly = true ∧ step s = .next (s.accept s.headRequest)) ∨
    (s.params.wf = true ∧ s.acceptsOnly = false ∧ fetch s = none ∧ step s = .next s) ∨
    (∃ i, s.params.wf = true ∧ s.acceptsOnly = false ∧ fetch s = some i ∧ step s = exec i s) := by
  cases hw : s.params.wf with
  | false => exact .inl ⟨rfl, by simp [step, hw]⟩
  | true =>
    cases ha : s.acceptsOnly with
    | true => exact .inr (.inl ⟨rfl, rfl, by simp [step, hw, ha]⟩)
    | false =>
      cases hf : fetch s with
      | none => exact .inr (.inr (.inl ⟨rfl, rfl, rfl, by simp [step, hw, ha, hf]⟩))
      | some i => exact .inr (.inr (.inr ⟨i, rfl, rfl, rfl, by simp [step, hw, ha, hf]⟩))

/-- Only the phase level accepts a request without running it, and only in `IDLE` with a request and no reset. -/
theorem acceptsOnly_iff (s : State) :
    s.acceptsOnly = true ↔ s.level = .phase ∧ s.resetPin = false ∧ s.phase = .idle ∧ s.requests ≠ [] := by
  simp only [State.acceptsOnly, State.reqReady, State.reqValid, Bool.and_eq_true, beq_iff_eq,
    Bool.not_eq_true', List.isEmpty_eq_false_iff]
  tauto

end Sys2Proof.Machine
end

