-- ==== Sys2Proof/Tests/Slice0.lean ====
section
/-! SUPPORT. Tests: what the checks of WellFormed refuse, words written out from the encodings, single steps whose
expected results are the vectors of 95_test_vectors.md, and for each statement with hypotheses a state that meets them. -/

open Sys2Proof Sys2Proof.Machine

namespace Sys2Proof.Tests

/-! ## The ranges of R6 -/

theorem test_wf_default : Params.default.wf = true := by decide
theorem test_wf_extremes :
    (Params.mk 1 1 0 .preserve).wf = true ∧ (Params.mk 256 1 256 .invalidate).wf = true := by decide
theorem test_wf_refuses_no_frame :
    (Params.mk 0 16 256 .preserve).framesOk = false ∧ (Params.mk 0 16 256 .preserve).wf = false := by decide
theorem test_wf_refuses_too_many_frames :
    (Params.mk 257 16 256 .preserve).framesOk = false ∧ (Params.mk 257 16 256 .preserve).wf = false := by decide
theorem test_wf_refuses_empty_tlb :
    (Params.mk 128 0 256 .preserve).tlbOk = false ∧ (Params.mk 128 0 256 .preserve).wf = false := by decide
theorem test_wf_refuses_too_large_store :
    (Params.mk 128 16 257 .preserve).storeOk = false ∧ (Params.mk 128 16 257 .preserve).wf = false := by decide
theorem test_step_refuses_illegal_parameters :
    step { State.reset with params := Params.mk 0 16 256 .preserve } = .refused .illegalParameters := rfl

/-! ## Encodings: the words are written out from R91, R100 and R220 -/

theorem test_decode_translate : decodeTableWord 16 0b0100001000010100 = some (.translate 0x4214#16) := by decide
theorem test_decode_vaSplit : decodeTableWord 4 0b0001 = some .vaSplit := by decide
theorem test_decode_tlbLookup : decodeTableWord 4 0b0010 = some .tlbLookup := by decide
theorem test_decode_ptLookup : decodeTableWord 4 0b0011 = some .ptLookup := by decide
theorem test_decode_ptAlloc : decodeTableWord 4 0b0100 = some .ptAlloc := by decide
theorem test_decode_tlbInval : decodeTableWord 4 0b0101 = some .tlbInval := by decide
theorem test_decode_bsFill : decodeTableWord 4 0b0110 = some .bsFill := by decide
theorem test_decode_tlbInsert : decodeTableWord 4 0b0111 = some .tlbInsert := by decide
theorem test_decode_paCombine : decodeTableWord 4 0b1000 = some .paCombine := by decide
theorem test_decode_memRead : decodeTableWord 4 0b1001 = some .memRead := by decide
theorem test_decode_respond : decodeTableWord 4 0b1010 = some .respond := by decide
theorem test_decode_reset : decodeTableWord 1 0b1 = some .reset := by decide
theorem test_decode_byte_of_phase_code : decodeTableWord 8 0b00001010 = some .respond := by decide
theorem test_decode_rejects :
    decode (.seq4 0b0000#4) = .error .idlePhase ∧ decode (.seq4 0b1011#4) = .error (.unusedPhase 11#4) ∧
    decode (.seq4 0b1110#4) = .error (.unusedPhase 14#4) ∧ decode (.seq4 0b1111#4) = .error .haltPhase ∧
    decode (.pin 0#1) = .error .resetLow := by decide

/-- R94 and the example of R164. -/
theorem test_resp32 : resp32 20#16 0x56#8 false true = 0x02560014#32 := by decide
/-- R106. -/
theorem test_stored_entries :
    entryWord ⟨66#8, 1#8⟩ = 0x4201#16 ∧ pteWord (some 1#8) 0xFF#8 = 0x101#9 ∧ pteWord none 0xFF#8 = 0x0FF#9 := by decide
/-- V1: masking. -/
theorem test_mask : maskRequest 82452#32 = 0x4214#16 ∧ maskRequest 4294967295#32 = 0xFFFF#16 := by decide
/-- V5: signed reading. -/
theorem test_signed8 :
    signed8 0x7F#8 = 127 ∧ signed8 0x80#8 = -128 ∧ signed8 0x90#8 = -112 ∧ signed8 0xFF#8 = -1 := by decide

/-! ## Single steps -/

/-- A machine with two frames, four TLB entries and a policy, otherwise as after reset. -/
def small (policy : StalePolicy) : State :=
  { State.reset with params := Params.mk 2 4 256 policy }

/-- What a step's next state satisfies; false where there is none. -/
def nextIs (o : Host.Outcome State Fault Refusal) (P : State → Bool) : Bool :=
  match o with
  | .next t => P t
  | .fault _ => false
  | .refused _ => false

theorem nextIs_spec {o : Host.Outcome State Fault Refusal} {P : State → Bool} (h : nextIs o P = true) :
    ∃ t, o = .next t ∧ P t = true := by
  cases o with
  | next t => exact ⟨t, rfl, h⟩
  | fault r => cases h
  | refused r => cases h

/-- V6: from reset at the default configuration, with the store's byte at page 66 offset 20. -/
theorem test_translate_fault :
    nextIs (exec (.translate 0x4214#16)
        { State.reset with store := [(0x4214, 0x56#8)], answers := [.ok] })
      (fun t => t.delivered == [⟨20#16, 86, false, true⟩] && t.tlb == [⟨66#8, 0#8⟩] && t.rq == [⟨66#8, 0#8⟩] &&
        t.allocCount == 1 && t.phase == .idle && t.answers == []) = true := by decide

/-- V7: page 200 is beyond a store of 128 pages. -/
theorem test_translate_halts :
    nextIs (exec (.translate 0xC805#16)
        { State.reset with params := Params.mk 128 16 128 .preserve, answers := [.ok] })
      (fun t => t.status16 == 0x07C8#16 && t.tlb == [] && t.rq == [⟨200#8, 0#8⟩] && t.delivered == [] &&
        t.allocCount == 1) = true := by decide

/-- V1. -/
theorem test_vaSplit :
    nextIs (exec .vaSplit { State.reset with reqVaddr := 0xF41D#16 })
      (fun t => t.curPage == 244#8 && t.curOffset == 29#8 && t.phase == .tlbl) = true := by decide

/-- V3: a stale entry matches like any other. -/
theorem test_tlbLookup_hit :
    nextIs (exec .tlbLookup
        { State.reset with tlb := [⟨10#8, 0#8⟩, ⟨11#8, 1#8⟩, ⟨12#8, 0#8⟩], curPage := 11#8, resPageFault := true })
      (fun t => t.curFrame == 1#8 && t.resTlbHit && !t.resPageFault && t.phase == .comb) = true := by decide

/-- V3: the frame field is not searched. -/
theorem test_tlbLookup_miss :
    nextIs (exec .tlbLookup { State.reset with tlb := [⟨7#8, 3#8⟩], curPage := 3#8, resTlbHit := true })
      (fun t => !t.resTlbHit && t.phase == .ptl && t.tlb == [⟨7#8, 3#8⟩]) = true := by decide

/-- V4. -/
theorem test_ptLookup_hit :
    nextIs (exec .ptLookup { State.reset with pt := ptSet State.reset.pt 10#8 (some 1#8), curPage := 10#8 })
      (fun t => t.curFrame == 1#8 && !t.resPageFault && t.phase == .tlbi) = true := by decide

/-- V4: after reset every lookup is `None`. -/
theorem test_ptLookup_absent :
    nextIs (exec .ptLookup { State.reset with curPage := 10#8 })
      (fun t => t.resPageFault && t.phase == .alloc) = true := by decide

/-- V4: the last free frame. -/
theorem test_ptAlloc_free :
    nextIs (exec .ptAlloc
        { small .invalidate with
          pt := ptSet State.reset.pt 10#8 (some 0#8), rq := [⟨10#8, 0#8⟩], allocCount := 1, curPage := 11#8 })
      (fun t => t.curFrame == 1#8 && !t.evictValid && t.allocCount == 2 && t.rq == [⟨10#8, 0#8⟩, ⟨11#8, 1#8⟩] &&
        ptGet t.pt 11#8 == some 1#8 && ptGet t.pt 10#8 == some 0#8 && t.phase == .fill) = true := by decide

/-- V4: the front is popped and its frame used again. -/
theorem test_ptAlloc_evicts :
    nextIs (exec .ptAlloc
        { small .invalidate with
          pt := ptSet (ptSet State.reset.pt 10#8 (some 0#8)) 11#8 (some 1#8), rq := [⟨10#8, 0#8⟩, ⟨11#8, 1#8⟩],
          allocCount := 2, curPage := 12#8 })
      (fun t => t.curFrame == 0#8 && t.evictValid && t.evictPage == 10#8 && t.allocCount == 2 &&
        t.rq == [⟨11#8, 1#8⟩, ⟨12#8, 0#8⟩] && ptGet t.pt 10#8 == none && ptGet t.pt 12#8 == some 0#8 &&
        t.phase == .inval) = true := by decide

/-- V3. -/
theorem test_tlbInval :
    nextIs (exec .tlbInval
        { State.reset with tlb := [⟨5#8, 2#8⟩, ⟨6#8, 0#8⟩, ⟨7#8, 1#8⟩, ⟨8#8, 3#8⟩], evictPage := 6#8 })
      (fun t => t.tlb == [⟨5#8, 2#8⟩, ⟨7#8, 1#8⟩, ⟨8#8, 3#8⟩] && t.phase == .fill) = true := by decide

/-- V5: BS.FILL(244, 1); byte 29 of the page is byte 17 of the fixture store, at address 285. -/
theorem test_bsFill :
    nextIs (exec .bsFill
        { State.reset with
          store := [(244 * 256 + 29, 17#8)], answers := [.ok], curPage := 244#8, curFrame := 1#8,
          mem := [(255, 9#8), (285, 1#8)] })
      (fun t => t.mem.read 285 == some 17#8 && t.mem.read 255 == some 9#8 && t.phase == .tlbi) = true := by decide

/-- V7: the reader reports an I/O error on page 3. -/
theorem test_bsFill_fails :
    nextIs (exec .bsFill { State.reset with answers := [.err .ioError], curPage := 3#8, phase := .fill })
      (fun t => t.status16 == 0x0503#16 && t.halted && t.answers == []) = true := by decide

/-- V3: at capacity the oldest entry goes. -/
theorem test_tlbInsert_full :
    nextIs (exec .tlbInsert
        { small .preserve with
          tlb := [⟨5#8, 2#8⟩, ⟨6#8, 0#8⟩, ⟨7#8, 1#8⟩, ⟨8#8, 3#8⟩], curPage := 9#8, curFrame := 0#8 })
      (fun t => t.tlb == [⟨6#8, 0#8⟩, ⟨7#8, 1#8⟩, ⟨8#8, 3#8⟩, ⟨9#8, 0#8⟩] && t.phase == .comb) = true := by decide

/-- V3: below capacity nothing goes. -/
theorem test_tlbInsert_grows :
    nextIs (exec .tlbInsert
        { small .preserve with tlb := [⟨5#8, 2#8⟩, ⟨6#8, 0#8⟩, ⟨7#8, 1#8⟩], curPage := 8#8, curFrame := 3#8 })
      (fun t => t.tlb == [⟨5#8, 2#8⟩, ⟨6#8, 0#8⟩, ⟨7#8, 1#8⟩, ⟨8#8, 3#8⟩]) = true := by decide

/-- V2: the highest address at `NUM_FRAMES = 128`. -/
theorem test_paCombine :
    nextIs (exec .paCombine { State.reset with curFrame := 127#8, curOffset := 255#8 })
      (fun t => t.resPaddr == 0x7FFF#16 && t.phase == .read) = true := by decide

/-- R158's example. -/
theorem test_memRead :
    nextIs (exec .memRead { State.reset with mem := [(19, 1#8), (20, 0x56#8)], resPaddr := 20#16 })
      (fun t => t.resValue == 0x56#8 && t.phase == .resp) = true := by decide

/-- R164's example, and R95: the driver takes the result. -/
theorem test_respond :
    nextIs (exec .respond
        { State.reset with phase := .resp, resPaddr := 20#16, resValue := 0x56#8, resPageFault := true })
      (fun t => t.delivered == [⟨20#16, 86, false, true⟩] && t.phase == .idle) = true := by decide

/-- V7: after RESET the status is zero again. -/
theorem test_reset :
    nextIs (exec .reset
        { State.reset with
          phase := .halt, errCause := .ioError, errPage := 3#8, tlb := [⟨1#8, 0#8⟩], rq := [⟨3#8, 0#8⟩], allocCount := 1,
          pt := ptSet State.reset.pt 3#8 (some 0#8) })
      (fun t => t.status16 == 0#16 && t.tlb == [] && t.rq == [] && t.allocCount == 0 && ptGet t.pt 3#8 == none &&
        t.reqReady) = true := by decide

/-- The word of a request is fetched and run by the very next step. -/
theorem test_fetch_request :
    nextIs (step ({ State.reset with answers := [.ok], store := [(0x4214, 0x56#8)] }.withFetchWord 16 0x4214))
      (fun t => t.delivered == [⟨20#16, 86, false, true⟩] && t.requests == []) = true := by decide

/-- A word of a request runs to a result from reset itself, where the reader's answer has to be put at hand. -/
theorem test_fetch_request_from_reset :
    nextIs (step (State.reset.withFetchWord 16 0x4214))
      (fun t => t.delivered.map Result.paddr == [20#16] && t.phase == .idle) = true := by decide

/-- The code of a phase is fetched and run by the very next step. -/
theorem test_fetch_phase_code :
    fetch (State.reset.withFetchWord 8 0b00000100) = some .ptAlloc ∧
    fetch (State.reset.withFetchWord 1 0b1) = some .reset := by decide

/-! ## The hypotheses of the statements can be met -/

theorem witness_DecodeAndEncodeAgree :
    (Instr.translate 0xFFFF#16).wellFormed = true ∧ decode (.seq4 10#4) = .ok .respond ∧
    decode (.req16 0#16) = .ok (.translate 0#16) ∧ decode (.pin 1#1) = .ok .reset := by decide

theorem witness_PhaseCodesSelectTheirMicroOperation :
    1 ≤ (1#4).toNat ∧ (10#4).toNat ≤ 10 ∧ 11 ≤ (11#4).toNat ∧ (14#4).toNat ≤ 14 := by decide

theorem witness_StepRunsTheSelectedOperation_reset :
    ∃ s : State, s.params.wf = true ∧ s.resetPin = true ∧ s.phase = .fill :=
  ⟨{ small .preserve with resetPin := true, phase := .fill }, by decide⟩
theorem witness_StepRunsTheSelectedOperation_request :
    ∃ s : State, s.params.wf = true ∧ s.resetPin = false ∧ s.phase = .idle ∧ s.level = .transaction ∧
      s.requests = [0#16] :=
  ⟨{ small .preserve with requests := [0#16] }, by decide⟩
theorem witness_StepRunsTheSelectedOperation_phases :
    ∃ s s' : State, s.params.wf = true ∧ s.resetPin = false ∧ decode (.seq4 (phaseCode s.phase)) = .ok .vaSplit ∧
      s'.params.wf = true ∧ s'.resetPin = false ∧ decode (.seq4 (phaseCode s'.phase)) = .ok .respond :=
  ⟨{ small .preserve with phase := .split }, { small .preserve with phase := .resp }, by decide⟩

theorem witness_IdleAcceptsOrWaits :
    ∃ s s' : State, s.params.wf = true ∧ s.resetPin = false ∧ s.phase = .idle ∧ s.requests = [] ∧
      s'.params.wf = true ∧ s'.resetPin = false ∧ s'.phase = .idle ∧ s'.level = .phase ∧ s'.requests = [7#16] :=
  ⟨small .preserve, { small .preserve with level := .phase, requests := [7#16] }, by decide⟩

theorem witness_HaltIsLeftByResetOnly :
    ∃ s : State, s.params.wf = true ∧ s.halted = true ∧ s.resetPin = false ∧ s.requests = [7#16] :=
  ⟨{ small .preserve with phase := .halt, requests := [7#16] }, by decide⟩

theorem witness_ResetInAnyPhaseEmptiesTheEngine :
    ∃ s : State, s.params.wf = true ∧ s.resetPin = true ∧ s.phase = .halt :=
  ⟨{ small .preserve with resetPin := true, phase := .halt }, by decide⟩

/-- A TLB of three entries whose youngest is for page 12. -/
def threeEntries : List Entry := [⟨10#8, 0#8⟩, ⟨11#8, 1#8⟩, ⟨12#8, 0#8⟩]

theorem witness_TlbLookupScansOldestFirst :
    ∃ s : State, s.tlb[2]? = some ⟨12#8, 0#8⟩ ∧ s.curPage = 12#8 ∧
      (∀ (j : Nat) (d : Entry), j < 2 → s.tlb[j]? = some d → d.page ≠ s.curPage) := by
  refine ⟨{ small .preserve with tlb := threeEntries, curPage := 12#8 }, rfl, rfl, ?_⟩
  intro j d hj hd
  match j, hj with
  | 0, _ => cases hd; decide
  | 1, _ => cases hd; decide
theorem witness_TlbLookupScansOldestFirst_oldest :
    ∃ s : State, s.tlb[0]? = some ⟨10#8, 0#8⟩ ∧ s.curPage = 10#8 ∧
      (∀ (j : Nat) (d : Entry), j < 0 → s.tlb[j]? = some d → d.page ≠ s.curPage) :=
  ⟨{ small .preserve with tlb := threeEntries, curPage := 10#8 }, rfl, rfl, fun _ _ h => absurd h (Nat.not_lt_zero _)⟩
theorem witness_TlbLookupScansOldestFirst_miss :
    ∃ s : State, s.tlb = threeEntries ∧ ∀ e ∈ s.tlb, e.page ≠ s.curPage :=
  ⟨{ small .preserve with tlb := threeEntries, curPage := 7#8 }, by decide⟩

theorem witness_ParallelLookupEqualsTheScan :
    threeEntries.length ≤ 3 ∧ (threeEntries.map Entry.page).Nodup ∧ tlbMatch threeEntries 12#8 2 = true := by decide

theorem witness_TlbInsertAppendsAndEvictsTheOldest :
    ∃ s s' : State, s.tlb.length + 1 = s.params.tlbSize ∧ s.tlb.length ≠ s.params.tlbSize ∧
      s'.tlb.length = s'.params.tlbSize ∧ s'.tlb = ⟨9#8, 1#8⟩ :: threeEntries :=
  ⟨{ small .preserve with tlb := threeEntries }, { small .preserve with tlb := ⟨9#8, 1#8⟩ :: threeEntries }, by decide⟩

theorem witness_TlbKeepsTheYoungestInOrder : 1 ≤ 3 ∧ threeEntries.length ≤ 3 := by decide

theorem witness_TlbEntryLifetime :
    1 ≤ 4 ∧ threeEntries.length ≤ 4 ∧ (threeEntries.map Entry.page).Nodup ∧ threeEntries[1]? = some ⟨11#8, 1#8⟩ ∧
    (∀ d ∈ [Entry.mk 1#8 0#8, Entry.mk 2#8 1#8], d.page ≠ 11#8) := by decide

theorem witness_TlbInvalRemovesThePage :
    ∃ s s' : State, (∀ e ∈ s.tlb, e.page ≠ s.evictPage) ∧ (s'.tlb.map Entry.page).Nodup ∧
      ∃ e ∈ s'.tlb, e.page = s'.evictPage :=
  ⟨{ small .invalidate with tlb := threeEntries, evictPage := 7#8 },
    { small .invalidate with tlb := threeEntries, evictPage := 10#8 }, by decide⟩

/-- A page table with page 10 in frame 0 and page 11 in frame 1, both frames of `small` in use. -/
def full (policy : StalePolicy) : State :=
  { small policy with
    pt := ptSet (ptSet State.reset.pt 10#8 (some 0#8)) 11#8 (some 1#8)
    rq := [⟨10#8, 0#8⟩, ⟨11#8, 1#8⟩], allocCount := 2 }

theorem witness_PtLookupReadsTheSlot :
    ∃ s s' : State, ptGet s.pt s.curPage = some 1#8 ∧ ptGet s'.pt s'.curPage = none :=
  ⟨{ full .preserve with curPage := 11#8 }, { full .preserve with curPage := 255#8 }, by decide⟩

theorem witness_PtAllocTakesTheNextUnusedFrame :
    ∃ s : State, ptGet s.pt s.curPage = none ∧ s.allocCount < s.params.numFrames ∧
      s.allocCount + 1 = s.params.numFrames :=
  ⟨{ small .preserve with allocCount := 1, curPage := 12#8 }, by decide⟩

theorem witness_PtAllocReusesTheOldestFrame :
    ∃ s s' : State, ptGet s.pt s.curPage = none ∧ s.params.numFrames ≤ s.allocCount ∧
      s.rq = [⟨10#8, 0#8⟩, ⟨11#8, 1#8⟩] ∧ s.params.policy = .preserve ∧
      ptGet s'.pt s'.curPage = none ∧ s'.params.numFrames ≤ s'.allocCount ∧
      s'.rq = [⟨10#8, 0#8⟩, ⟨11#8, 1#8⟩] ∧ s'.params.policy = .invalidate :=
  ⟨{ full .preserve with curPage := 12#8 }, { full .invalidate with curPage := 12#8 }, by decide⟩

theorem witness_PtAllocRefusesAResidentPage : ∃ s : State, ptGet s.pt s.curPage = some 1#8 :=
  ⟨{ full .preserve with curPage := 11#8 }, by decide⟩

theorem witness_NthAllocationGetsFrameNModFrames_free :
    ∃ a b, (Params.mk 1 1 256 .preserve).wf = true ∧
      allocateAll (Params.mk 1 1 256 .preserve) [] noAllocation = .ok a ∧
      ptAllocate (Params.mk 1 1 256 .preserve) a.pt a.rq a.allocCount 6#8 = .ok b :=
  ⟨_, _, by decide, rfl, rfl⟩
theorem witness_NthAllocationGetsFrameNModFrames_evicting :
    ∃ a b, (Params.mk 1 1 256 .preserve).wf = true ∧
      allocateAll (Params.mk 1 1 256 .preserve) [5#8] noAllocation = .ok a ∧
      ptAllocate (Params.mk 1 1 256 .preserve) a.pt a.rq a.allocCount 6#8 = .ok b :=
  ⟨_, _, by decide, rfl, rfl⟩

theorem witness_BsFillCopiesThePageIntoTheFrame :
    ∃ s : State, s.answers = [.ok] ∧ s.curPage.toNat + 1 = s.params.bsPages ∧ s.curPage.toNat < s.params.bsPages ∧
      s.curFrame.toNat + 1 = s.params.numFrames ∧ s.curFrame.toNat < s.params.numFrames :=
  ⟨{ small .preserve with answers := [.ok], curPage := 255#8, curFrame := 1#8 }, by decide⟩

theorem witness_BsFillFailureHaltsTheMachine :
    ∃ s s' : State, s.answers = [.ok] ∧ s.params.bsPages = s.curPage.toNat ∧
      s.ReadFails .ok s.curPage .unreachableOffset ∧
      s'.answers = [.err .shortRead] ∧ s'.curPage.toNat + 1 = s'.params.bsPages ∧
      s'.ReadFails (.err .shortRead) s'.curPage .shortRead :=
  ⟨{ small .preserve with params := Params.mk 2 4 128 .preserve, answers := [.ok], curPage := 128#8 },
    { small .preserve with
      params := Params.mk 2 4 128 .preserve, answers := [.err .shortRead], curPage := 127#8 },
    rfl, by decide, .inl (by decide), rfl, by decide, .inr (by decide)⟩

theorem witness_FillWaitsForTheReader :
    ∃ s : State, s.params.wf = true ∧ s.resetPin = false ∧ s.phase = .fill ∧ s.answers = [] :=
  ⟨{ small .preserve with phase := .fill }, by decide⟩

theorem witness_PaCombineConcatenates : ∃ s : State, s.curFrame.toNat < s.params.numFrames ∧ s.curFrame = 1#8 :=
  ⟨{ small .preserve with curFrame := 1#8, curOffset := 255#8 }, by decide⟩

theorem witness_MemReadReadsTheByte :
    ∃ s : State, s.resPaddr.toNat < s.params.numFrames * 256 ∧ s.mem.read s.resPaddr.toNat = some 9#8 :=
  ⟨{ small .preserve with resPaddr := 511#16, mem := [(511, 9#8)] }, by decide⟩

theorem witness_MemReadStopsOnAByteWithoutValue :
    ∃ s s' : State, s.resPaddr.toNat < s.params.numFrames * 256 ∧ s.mem.read s.resPaddr.toNat = none ∧
      s'.params.numFrames * 256 ≤ s'.resPaddr.toNat :=
  ⟨{ small .preserve with resPaddr := 511#16 }, { small .preserve with resPaddr := 512#16 }, by decide⟩

theorem witness_RespondDeliversTheRecord : ∃ s : State, s.respReady = true ∧ s.phase = .resp :=
  ⟨{ small .preserve with phase := .resp }, by decide⟩

theorem witness_RespondHoldsTheRecord :
    ∃ s : State, s.params.wf = true ∧ s.resetPin = false ∧ s.phase = .resp ∧ s.respReady = false :=
  ⟨{ small .preserve with phase := .resp, respReady := false }, by decide⟩

/-- `full` with page 11's byte at offset 255 in memory: the last byte of the physical memory. -/
def fullWithByte : State := { full .preserve with mem := [(511, 9#8)] }

theorem witness_TranslateTlbHit :
    ∃ s : State, s.phase = .idle ∧ tlbFind s.tlb (pageOf 0x0BFF#16) = some 1#8 ∧
      (1#8).toNat < s.params.numFrames ∧ s.mem.read ((1#8).toNat * 256 + (offsetOf 0x0BFF#16).toNat) = some 9#8 :=
  ⟨{ fullWithByte with tlb := [⟨11#8, 1#8⟩] }, by decide⟩

theorem witness_TranslatePageTableHit :
    ∃ s : State, s.phase = .idle ∧ tlbFind s.tlb (pageOf 0x0BFF#16) = none ∧
      ptGet s.pt (pageOf 0x0BFF#16) = some 1#8 ∧ (1#8).toNat < s.params.numFrames ∧
      s.mem.read ((1#8).toNat * 256 + (offsetOf 0x0BFF#16).toNat) = some 9#8 :=
  ⟨fullWithByte, by decide⟩

theorem witness_TranslateFaultOnAFreeFrame :
    ∃ s : State, s.params.wf = true ∧ s.phase = .idle ∧ tlbFind s.tlb (pageOf 0xFF00#16) = none ∧
      ptGet s.pt (pageOf 0xFF00#16) = none ∧ s.allocCount < s.params.numFrames ∧ s.answers = [.ok] ∧
      (pageOf 0xFF00#16).toNat < s.params.bsPages :=
  ⟨{ small .preserve with answers := [.ok] }, by decide⟩

theorem witness_FirstTranslateFaultsOnFrameZero :
    (Params.mk 2 4 256 .preserve).wf = true ∧ (pageOf 0xFF00#16).toNat < (Params.mk 2 4 256 .preserve).bsPages := by
  decide

theorem witness_TranslateFaultEvictsTheOldestPage :
    ∃ s s' : State, s.phase = .idle ∧ tlbFind s.tlb (pageOf 0xFF00#16) = none ∧
      ptGet s.pt (pageOf 0xFF00#16) = none ∧ s.params.numFrames ≤ s.allocCount ∧
      s.rq = [⟨10#8, 0#8⟩, ⟨11#8, 1#8⟩] ∧ (0#8).toNat < s.params.numFrames ∧ s.answers = [.ok] ∧
      (pageOf 0xFF00#16).toNat < s.params.bsPages ∧ s.params.policy = .preserve ∧
      s' = { s with params := { s.params with policy := .invalidate } } :=
  ⟨{ full .preserve with answers := [.ok] }, _, by decide, by decide, by decide, by decide, rfl, by decide, rfl,
    by decide, rfl, rfl⟩

theorem witness_TranslateFaultOnAFailingRead_free :
    ∃ s : State, s.phase = .idle ∧ tlbFind s.tlb (pageOf 0x0300#16) = none ∧ ptGet s.pt (pageOf 0x0300#16) = none ∧
      s.answers = [.err .ioError] ∧ s.ReadFails (.err .ioError) (pageOf 0x0300#16) .ioError ∧
      s.allocCount + 1 = s.params.numFrames ∧ s.allocCount < s.params.numFrames :=
  ⟨{ small .preserve with allocCount := 1, answers := [.err .ioError] }, rfl, by decide, by decide, rfl,
    .inr (by decide), by decide, by decide⟩
/-- The eviction path under either policy, for a page just beyond the store. -/
theorem witness_TranslateFaultOnAFailingRead_evicting (policy : StalePolicy) :
    ∃ s : State, s.phase = .idle ∧ tlbFind s.tlb (pageOf 0x8000#16) = none ∧ ptGet s.pt (pageOf 0x8000#16) = none ∧
      s.answers = [.ok] ∧ s.params.bsPages = (pageOf 0x8000#16).toNat ∧
      s.ReadFails .ok (pageOf 0x8000#16) .unreachableOffset ∧ s.params.numFrames = s.allocCount ∧
      s.params.numFrames ≤ s.allocCount ∧ s.rq = [⟨10#8, 0#8⟩, ⟨11#8, 1#8⟩] ∧ s.params.policy = policy :=
  ⟨{ full policy with params := Params.mk 2 4 128 policy, answers := [.ok], tlb := threeEntries }, rfl,
    by cases policy <;> decide, by cases policy <;> decide, rfl, rfl, .inl ⟨by cases policy <;> decide, rfl⟩, rfl, Nat.le_refl 2, rfl, rfl⟩

theorem witness_TranslateIsAcceptedInIdleOnly : ∃ s : State, s.phase ≠ .idle :=
  ⟨{ small .preserve with phase := .halt }, by decide⟩

/-- A TLB hit whose result is delivered: the hypotheses of ThreeOutcomesNeverFour and TheOffsetPassesThrough. -/
theorem witness_ThreeOutcomesNeverFour_hit :
    ∃ (s t : State) (r : Result), exec (.translate 0x0BFF#16) s = .next t ∧ s.phase = .idle ∧
      t.delivered = s.delivered ++ [r] ∧ r.tlbHit = true := by
  obtain ⟨t, e, h⟩ := nextIs_spec (o := exec (.translate 0x0BFF#16) { fullWithByte with tlb := [⟨11#8, 1#8⟩] })
    (P := fun t => t.delivered == [⟨511#16, 9, true, false⟩]) (by decide)
  exact ⟨_, t, _, e, rfl, eq_of_beq h, rfl⟩
theorem witness_ThreeOutcomesNeverFour_fault :
    ∃ (s t : State) (r : Result), exec (.translate 0x4202#16) s = .next t ∧ s.phase = .idle ∧
      t.delivered = s.delivered ++ [r] ∧ r.pageFault = true := by
  obtain ⟨t, e, h⟩ := nextIs_spec
    (o := exec (.translate 0x4202#16) { small .preserve with answers := [.ok], store := [(0x4202, 0x56#8)] })
    (P := fun t => t.delivered == [⟨2#16, 0x56, false, true⟩]) (by decide)
  exact ⟨_, t, _, e, rfl, eq_of_beq h, rfl⟩

theorem witness_ThreeOutcomesNeverFour_pageTableHit :
    ∃ (s t : State) (r : Result), exec (.translate 0x0BFF#16) s = .next t ∧ s.phase = .idle ∧
      t.delivered = s.delivered ++ [r] ∧ r.tlbHit = false ∧ r.pageFault = false := by
  obtain ⟨t, e, h⟩ := nextIs_spec (o := exec (.translate 0x0BFF#16) fullWithByte)
    (P := fun t => t.delivered == [⟨511#16, 9, false, false⟩]) (by decide)
  exact ⟨_, t, _, e, rfl, eq_of_beq h, rfl, rfl⟩
/-- A page fault that evicts page 10, with its TLB entry there to be removed. -/
theorem witness_ThreeOutcomesNeverFour_evicting :
    ∃ (s t : State) (r : Result) (a : Allocation), exec (.translate 0x4202#16) s = .next t ∧ s.phase = .idle ∧
      t.delivered = s.delivered ++ [r] ∧ r.pageFault = true ∧ s.params.policy = .invalidate ∧
      ptAllocate s.params s.pt s.rq s.allocCount (pageOf 0x4202#16) = .ok a ∧ a.evicted = some 10#8 := by
  obtain ⟨t, e, h⟩ := nextIs_spec
    (o := exec (.translate 0x4202#16)
      { full .invalidate with answers := [.ok], store := [(0x4202, 0x56#8)], tlb := threeEntries })
    (P := fun t => t.delivered == [⟨2#16, 0x56, false, true⟩]) (by decide)
  exact ⟨_, t, _, _, e, rfl, eq_of_beq h, rfl, rfl, rfl, rfl⟩

theorem witness_ImmediateRepeatIsATlbHit :
    ∃ (s t u : State) (r r' : Result), exec (.translate 0x0BFF#16) s = .next t ∧ s.phase = .idle ∧
      t.delivered = s.delivered ++ [r] ∧ pageOf 0x0BFE#16 = pageOf 0x0BFF#16 ∧
      exec (.translate 0x0BFE#16) t = .next u ∧ u.delivered = t.delivered ++ [r'] := by
  obtain ⟨t, e, h⟩ := nextIs_spec
    (o := exec (.translate 0x0BFF#16) { fullWithByte with tlb := [⟨11#8, 1#8⟩], mem := [(510, 8#8), (511, 9#8)] })
    (P := fun t => t.delivered == [⟨511#16, 9, true, false⟩] && nextIs (exec (.translate 0x0BFE#16) t)
      (fun u => u.delivered == t.delivered ++ [⟨510#16, 8, true, false⟩])) (by decide)
  obtain ⟨h1, h2⟩ : _ ∧ _ := by simpa only [Bool.and_eq_true] using h
  obtain ⟨u, e', h'⟩ := nextIs_spec h2
  exact ⟨_, t, u, _, _, e, rfl, eq_of_beq h1, by decide, e', eq_of_beq h'⟩

/-- A request whose page is nowhere, without an answer of the reader, where a frame is free and where none is. -/
theorem asks_free (level : Level) :
    State.AsksTheReader { small .preserve with level := level, requests := [0x4214#16] } 0x4214#16 :=
  ⟨rfl, by cases level <;> decide, .inl Nat.zero_lt_two⟩
theorem asks_full (level : Level) :
    State.AsksTheReader { full .invalidate with level := level, requests := [0x4214#16] } 0x4214#16 :=
  ⟨rfl, by cases level <;> decide, .inr (List.cons_ne_nil _ _)⟩

theorem witness_TranslateHappensOnlyWithTheAnswer :
    ∃ s s' : State, s.phase = .idle ∧ s.AsksTheReader 0x4214#16 ∧ s.answers = [] ∧ s.params.wf = true ∧
      s.resetPin = false ∧ s.level = .transaction ∧ s.requests.head? = some 0x4214#16 ∧
      s'.phase = .idle ∧ s'.AsksTheReader 0x4214#16 ∧ s'.answers = [] ∧ s'.params.numFrames = s'.allocCount :=
  ⟨_, _, rfl, asks_free .transaction, rfl, rfl, rfl, rfl, rfl, rfl, asks_full .transaction, rfl, rfl⟩

/-- The four ends of a transaction-level step on a request: not happened, delivered, on the response port, halted. -/
theorem witness_TransactionStepIsWhole (ready : Bool) (answers : List ReaderAnswer)
    (h : answers ∈ [[], [.ok], [.err .ioError]]) :
    ∃ s t : State, s.level = .transaction ∧ s.resetPin = false ∧ s.phase = .idle ∧ s.requests = [0x4214#16] ∧
      s.respReady = ready ∧ s.answers = answers ∧ step s = .next t := by
  obtain ⟨t, e, -⟩ := nextIs_spec (o := step
      { small .preserve with
        requests := [0x4214#16], respReady := ready, answers := answers, store := [(0x4214, 0x56#8)] })
    (P := fun _ => true) (by
      simp only [List.mem_cons, List.not_mem_nil, or_false] at h
      rcases h with rfl | rfl | rfl <;> cases ready <;> decide)
  exact ⟨_, t, rfl, rfl, rfl, rfl, rfl, rfl, e⟩

/-- An answer is there, or none is needed. -/
theorem witness_ThePhaseWalkImplementsTheTransaction :
    ∃ s s' : State, s.params.wf = true ∧ s.level = .phase ∧ s.resetPin = false ∧ s.phase = .idle ∧
      s.requests.head? = some 0x4214#16 ∧ (s.answers = [] → ¬ s.AsksTheReader 0x4214#16) ∧
      s'.params.wf = true ∧ s'.level = .phase ∧ s'.resetPin = false ∧ s'.phase = .idle ∧
      s'.requests.head? = some 0x0BFF#16 ∧ s'.answers = [] ∧ ¬ s'.AsksTheReader 0x0BFF#16 :=
  ⟨{ small .preserve with level := .phase, requests := [0x4214#16], answers := [.ok] },
    { fullWithByte with level := .phase, requests := [0x0BFF#16] },
    by decide, rfl, rfl, rfl, rfl, (fun h => absurd h (List.cons_ne_nil _ _)), by decide, rfl, rfl, rfl, rfl, rfl,
    (fun h => absurd h.2.1 (by decide))⟩
theorem witness_ThePhaseWalkImplementsTheTransaction_waits :
    ∃ s : State, s.params.wf = true ∧ s.level = .phase ∧ s.resetPin = false ∧ s.phase = .idle ∧
      s.requests.head? = some 0x4214#16 ∧ s.answers = [] ∧ s.AsksTheReader 0x4214#16 :=
  ⟨_, rfl, rfl, rfl, rfl, rfl, rfl, asks_free .phase⟩

theorem witness_TheInvariantHoldsAtPowerUp : (Params.mk 256 1 0 .invalidate).wf = true := by decide

/-- One frame, which holds page 1, with any TLB and one good answer to come. The store's bytes at the start of pages 0 and 1 differ. -/
def held (policy : StalePolicy) (tlb : List Entry) : State :=
  { State.reset with
    params := Params.mk 1 2 2 policy, store := [(0, 1#8), (256, 2#8)], tlb := tlb
    pt := ptSet State.reset.pt 1#8 (some 0#8), rq := [⟨1#8, 0#8⟩], allocCount := 1, answers := [.ok]
    mem := blockCells 0 (storePage [(0, 1#8), (256, 2#8)] 1#8) }

theorem held_pt (policy : StalePolicy) (tlb : List Entry) (p : Page) :
    ptGet (held policy tlb).pt p = if p = 1#8 then some 0#8 else none := by
  simp only [held, ptGet_ptSet]
  split
  · rfl
  · simp [State.reset, ptGet]

theorem held_inv (policy : StalePolicy) (tlb : List Entry) (hl : tlb.length ≤ 2) (hn : (tlb.map Entry.page).Nodup)
    (hs : ∀ e ∈ tlb, e.frame = 0#8 ∧ (e.page = 1#8 ∨ policy = .preserve)) : (held policy tlb).Inv where
  paramsWf := rfl
  memoryOk := ⟨blockCells_wf _ _, fun c hc => by
    have h := (mem_blockCells hc).2
    rw [storePage_length, Nat.zero_add] at h
    show c.1 < 1 * pageSize
    rw [Nat.one_mul]
    exact h⟩
  tlbWithinCapacity := hl
  tlbPagesDistinct := hn
  queueCounted := ⟨rfl, Nat.le_refl 1⟩
  tableAgreesWithQueue := by
    intro p f
    rw [held_pt]
    by_cases h : p = 1#8
    · subst h
      show (if (1#8 : Page) = 1#8 then some 0#8 else none) = some f ↔ Entry.mk 1#8 f ∈ [Entry.mk 1#8 0#8]
      simp only [if_true, Option.some.injEq, List.mem_singleton, Entry.mk.injEq, true_and]
      exact eq_comm
    · show (if p = 1#8 then some 0#8 else none) = some f ↔ Entry.mk p f ∈ [Entry.mk 1#8 0#8]
      simp [h]
  queueDistinct := ⟨by simp [held], by simp [held]⟩
  roundRobin := by
    refine ⟨fun h => absurd h (Nat.lt_irrefl 1), fun _ front h => ?_⟩
    cases h
    refine ⟨Nat.one_pos, fun i e he => ?_⟩
    match i with
    | 0 => cases he; rfl
  residentFilled := by
    intro e he o ho
    have he : e = ⟨1#8, 0#8⟩ := by simpa [held, State.filledPairs, State.reset] using he
    subst he
    have h := read_blockCells 0 (storePage [(0, 1#8), (256, 2#8)] 1#8) o
    have hd : o < (storePage [(0, 1#8), (256, 2#8)] 1#8).length := by rw [storePage_length]; exact ho
    rw [List.getElem?_eq_getElem hd, storePage_getElem] at h
    exact h
  tlbPointsSoundly := by
    intro e he
    obtain ⟨hf, hp⟩ := hs e he
    refine ⟨by rw [hf]; exact Nat.one_pos, ?_⟩
    rw [held_pt, hf]
    by_cases h : e.page = 1#8
    · simp [h]
    · exact .inr ⟨by simp [h], .inl (hp.resolve_left h)⟩
  phaseOk := trivial
  causeAgreesWithHalt := by
    show (ErrCause.none = ErrCause.none ↔ Phase.idle ≠ Phase.halt)
    simp
  transactionsWhole := fun _ => .inl rfl

/-- A live entry. -/
theorem held_live_inv (policy : StalePolicy) : (held policy [⟨1#8, 0#8⟩]).Inv :=
  held_inv policy _ (by decide) (by decide) (by simp)

/-- A stale entry for page 0, whose frame now holds page 1. -/
theorem held_stale_inv : (held .preserve [⟨0#8, 0#8⟩]).Inv := held_inv _ _ (by decide) (by decide) (by simp)

theorem witness_TheEnvironmentKeepsTheInvariant : ∃ s : State, s.Inv := ⟨_, held_live_inv .preserve⟩

theorem witness_EveryStepKeepsTheInvariant : ∃ s t : State, s.Inv ∧ step s = .next t := by
  obtain ⟨t, e, -⟩ := nextIs_spec (o := step (held .preserve [⟨1#8, 0#8⟩])) (P := fun _ => true) (by decide)
  exact ⟨_, t, held_live_inv _, e⟩

theorem witness_NoStepStopsUnderTheInvariant : ∃ s : State, s.Inv := ⟨_, held_stale_inv⟩

theorem witness_ReachableStatesAreSound : ∃ s : State, Reachable s :=
  ⟨_, Reachable.powerUp (Params.mk 1 2 2 .preserve) [] .transaction (by decide)⟩

theorem witness_TlbStaysWithinItsCapacity :
    ∃ s t : State, s.tlb.length = s.params.tlbSize ∧ s.tlb.length ≤ s.params.tlbSize ∧ step s = .next t := by
  obtain ⟨t, e, -⟩ := nextIs_spec
    (o := step { small .preserve with tlb := ⟨9#8, 1#8⟩ :: threeEntries, phase := .tlbi }) (P := fun _ => true) (by decide)
  exact ⟨_, t, by decide, by decide, e⟩

theorem witness_EveryStepKeepsMemoryCanonical : ∃ s t : State, Memory.wf s.mem ∧ step s = .next t := by
  obtain ⟨t, e, -⟩ := nextIs_spec
    (o := step { small .preserve with mem := [(0, 1#8), (511, 2#8)], phase := .fill, answers := [.ok] })
    (P := fun _ => true) (by decide)
  exact ⟨_, t, by decide, e⟩

/-- The hypotheses of ParametersStoreAndInputsStay, ResultsAreDeliveredInOrder and ErrorRegistersAreWrittenOnce. -/
theorem witness_ErrorRegistersAreWrittenOnce : ∃ s t : State, step s = .next t ∧ s.resetPin = false := by
  obtain ⟨t, e, -⟩ := nextIs_spec (o := step { small .preserve with phase := .fill, answers := [.err .ioError] })
    (P := fun _ => true) (by decide)
  exact ⟨_, t, e, rfl⟩

theorem witness_EachStructureHasItsWriters :
    ∃ s t : State, exec .tlbLookup s = .next t ∧ Instr.tlbLookup ≠ .reset ∧ (∀ va, Instr.tlbLookup ≠ .translate va) :=
  ⟨small .preserve, _, rfl, by decide, fun _ h => nomatch h⟩

/-- The invariant, a TLB hit on a live entry under either policy and its delivered result. -/
theorem held_completes (policy : StalePolicy) :
    ∃ t, exec (.translate 0x0100#16) (held policy [⟨1#8, 0#8⟩]) = .next t ∧ t.delivered = [⟨0#16, 2, true, false⟩] := by
  obtain ⟨t, e, h⟩ := nextIs_spec (o := exec (.translate 0x0100#16) (held policy [⟨1#8, 0#8⟩]))
    (P := fun t => t.delivered == [⟨0#16, 2, true, false⟩]) (by cases policy <;> decide)
  exact ⟨t, e, eq_of_beq h⟩

theorem witness_LiveResultsAreTheStoreBytes :
    ∃ (s t : State) (r : Result), s.Inv ∧ s.phase = .idle ∧ exec (.translate 0x0100#16) s = .next t ∧
      t.delivered = s.delivered ++ [r] ∧ ptGet s.pt (pageOf 0x0100#16) ≠ none := by
  obtain ⟨t, e, h⟩ := held_completes .preserve
  exact ⟨_, t, _, held_live_inv _, rfl, e, h, by decide⟩

theorem witness_LiveResultsAreTheStoreBytes_fault :
    ∃ (s t : State) (r : Result), s.Inv ∧ s.phase = .idle ∧ exec (.translate 0x0000#16) s = .next t ∧
      t.delivered = s.delivered ++ [r] ∧ r.pageFault = true := by
  obtain ⟨t, e, h⟩ := nextIs_spec (o := exec (.translate 0x0000#16) (held .preserve [⟨1#8, 0#8⟩]))
    (P := fun t => t.delivered == [⟨0#16, 1, false, true⟩]) (by decide)
  exact ⟨_, t, _, held_live_inv _, rfl, e, eq_of_beq h, rfl⟩

theorem witness_InvalidateResultsAreTheStoreBytes :
    ∃ (s t : State) (r : Result), s.Inv ∧ s.params.policy = .invalidate ∧ s.phase = .idle ∧
      exec (.translate 0x0100#16) s = .next t ∧ t.delivered = s.delivered ++ [r] := by
  obtain ⟨t, e, h⟩ := held_completes .invalidate
  exact ⟨_, t, _, held_live_inv _, rfl, rfl, e, h⟩

theorem witness_StaleHitReturnsTheOwnersByte :
    ∃ s : State, s.Inv ∧ s.phase = .idle ∧ Entry.mk 0#8 0#8 ∈ s.tlb ∧ ptGet s.pt 0#8 = none :=
  ⟨held .preserve [⟨0#8, 0#8⟩], held_stale_inv, rfl, List.mem_singleton_self _, by rw [held_pt]; rfl⟩

end Sys2Proof.Tests
end

section
/-! What a step leaves of the run's constants and of the inputs (R6, R16, R220, R232), and which operation it runs
(R14, R92, R100, R198). -/

namespace Sys2Proof.Machine

/-! ## RESPOND, one lemma per field that both of its branches keep -/

variable (s : State)

@[simp] theorem State.respond_params : s.respond.params = s.params := by unfold State.respond; split <;> rfl
@[simp] theorem State.respond_level : s.respond.level = s.level := by unfold State.respond; split <;> rfl
@[simp] theorem State.respond_store : s.respond.store = s.store := by unfold State.respond; split <;> rfl
@[simp] theorem State.respond_resetPin : s.respond.resetPin = s.resetPin := by unfold State.respond; split <;> rfl
@[simp] theorem State.respond_requests : s.respond.requests = s.requests := by unfold State.respond; split <;> rfl
@[simp] theorem State.respond_respReady : s.respond.respReady = s.respReady := by unfold State.respond; split <;> rfl
@[simp] theorem State.respond_answers : s.respond.answers = s.answers := by unfold State.respond; split <;> rfl
@[simp] theorem State.respond_tlb : s.respond.tlb = s.tlb := by unfold State.respond; split <;> rfl
@[simp] theorem State.respond_pt : s.respond.pt = s.pt := by unfold State.respond; split <;> rfl
@[simp] theorem State.respond_rq : s.respond.rq = s.rq := by unfold State.respond; split <;> rfl
@[simp] theorem State.respond_allocCount : s.respond.allocCount = s.allocCount := by
  unfold State.respond; split <;> rfl
@[simp] theorem State.respond_mem : s.respond.mem = s.mem := by unfold State.respond; split <;> rfl
@[simp] theorem State.respond_errCause : s.respond.errCause = s.errCause := by unfold State.respond; split <;> rfl
@[simp] theorem State.respond_errPage : s.respond.errPage = s.errPage := by unfold State.respond; split <;> rfl

variable {s} {t u v : State} {va : Vaddr}

/-! ## PT.ALLOC -/

/-- What PT.ALLOC leaves on the free-frame path (R134). -/
def freeAllocation (pt : PageTable) (rq : List Entry) (count : Nat) (p : Page) : Allocation :=
  { pt := ptSet pt p (some (BitVec.ofNat 8 count)), rq := rq ++ [Entry.mk p (BitVec.ofNat 8 count)],
    allocCount := count + 1, frame := BitVec.ofNat 8 count, evicted := none }

/-- What PT.ALLOC leaves on the eviction path (R135). -/
def evictingAllocation (pt : PageTable) (victim : Entry) (rest : List Entry) (count : Nat) (p : Page) : Allocation :=
  { pt := ptSet (ptSet pt victim.page none) p (some victim.frame), rq := rest ++ [Entry.mk p victim.frame],
    allocCount := count, frame := victim.frame, evicted := some victim.page }

/-- Which allocation PT.ALLOC answers, and where (R132 to R135). -/
theorem ptAllocate_ok_cases {c : Params} {pt : PageTable} {rq : List Entry} {count : Nat} {p : Page} {a : Allocation}
    (h : ptAllocate c pt rq count p = .ok a) :
    ptGet pt p = none ∧
      ((count < c.numFrames ∧ a = freeAllocation pt rq count p) ∨
        ∃ victim rest, c.numFrames ≤ count ∧ rq = victim :: rest ∧ a = evictingAllocation pt victim rest count p) := by
  rcases ptAllocate_cases c pt rq count p with
    ⟨_, _, e⟩ | ⟨hp, hc, e⟩ | ⟨_, _, _, e⟩ | ⟨victim, rest, hp, hc, hq, e⟩ <;> rw [e] at h
  · cases h
  · cases h
    exact ⟨hp, .inl ⟨hc, rfl⟩⟩
  · cases h
  · cases h
    exact ⟨hp, .inr ⟨victim, rest, hc, hq, rfl⟩⟩

/-- PT.ALLOC of an absent page answers exactly where there is a frame never used or a front of the queue. -/
theorem exists_ptAllocate_ok_iff (c : Params) {pt : PageTable} (rq : List Entry) (count : Nat) {p : Page}
    (hp : ptGet pt p = none) :
    (∃ a, ptAllocate c pt rq count p = .ok a) ↔ count < c.numFrames ∨ rq ≠ [] := by
  constructor
  · rintro ⟨a, h⟩
    rcases (ptAllocate_ok_cases h).2 with ⟨hc, _⟩ | ⟨victim, rest, _, hq, _⟩
    · exact .inl hc
    · exact .inr (by simp [hq])
  · intro h
    rcases ptAllocate_cases c pt rq count p with ⟨f, hf, _⟩ | ⟨_, _, e⟩ | ⟨_, hc, hq, _⟩ | ⟨_, _, _, _, _, e⟩
    · simp [hp] at hf
    · exact ⟨_, e⟩
    · rcases h with h | h
      · omega
      · exact absurd hq h
    · exact ⟨_, e⟩

/-! ## A transaction under way -/

/-- The transaction of `va` that began in `s` has come to `u`: the request has left its port, at most one answer of the
reader is used up, and nothing has been delivered yet. -/
structure State.UnderWay (va : Vaddr) (s u : State) : Prop where
  params : u.params = s.params
  level : u.level = s.level
  store : u.store = s.store
  resetPin : u.resetPin = s.resetPin
  respReady : u.respReady = s.respReady
  requests : u.requests = s.requests.tail
  answers : u.answers = s.answers ∨ u.answers = s.answers.tail
  delivered : u.delivered = s.delivered
  curPage : u.curPage = pageOf va

/-- A transaction that a frame serves ends with a byte on the response port. -/
theorem State.UnderWay.finish (hu : s.UnderWay va u) (h : translateFinish u = .next t) :
    ∃ w b, s.UnderWay va w ∧ t = (w.withValue b).respond := by
  rcases translateFinish_cases u with ⟨b, _, _, e⟩ | ⟨r, _, e⟩ <;> rw [e] at h
  · cases h
    exact ⟨u.combinePa, b, { hu with }, rfl⟩
  · cases h

/-- How a transaction ends that has come to its fill in `v`. -/
theorem translateFill_next (hv : s.UnderWay va v) (ha : v.answers = s.answers) (h : translateFill s v = .next t) :
    (t = s ∧ s.answers = []) ∨
    (∃ u b, s.UnderWay va u ∧ t = (u.withValue b).respond) ∨
    (∃ u k, s.UnderWay va u ∧ t = u.takeBackingStoreFault k (pageOf va)) := by
  rcases translateFill_cases s v with ⟨hn, e⟩ | ⟨_, _, k, _, _, e⟩ | ⟨_, e⟩ | ⟨_, _, _, _, e⟩ <;> rw [e] at h
  · cases h
    exact .inl ⟨rfl, ha ▸ hn⟩
  · cases h
    exact .inr (.inr ⟨v.useAnswer, k, { hv with answers := .inr (congrArg List.tail ha) }, by rw [hv.curPage]⟩)
  · cases h
  · refine .inr (.inl (State.UnderWay.finish ?_ h))
    exact { hv with answers := .inr (congrArg List.tail ha) }

/-- How a transaction ends that has come to its PT.ALLOC in `v`. -/
theorem translateFault_next (hv : s.UnderWay va v) (ha : v.answers = s.answers) (h : translateFault s v = .next t) :
    (t = s ∧ s.answers = [] ∧ ∃ a, ptAllocate v.params v.pt v.rq v.allocCount v.curPage = .ok a) ∨
    (∃ u b, s.UnderWay va u ∧ t = (u.withValue b).respond) ∨
    (∃ u k, s.UnderWay va u ∧ t = u.takeBackingStoreFault k (pageOf va)) := by
  rcases translateFault_cases s v with ⟨r, _, e⟩ | ⟨a, hok, _, e⟩ | ⟨a, hok, _, e⟩ <;> rw [e] at h
  · cases h
  · have hv' : s.UnderWay va (v.withAllocation a).invalidateTlb := { hv with }
    exact (translateFill_next hv' ha h).imp_left fun ⟨ht, hn⟩ => ⟨ht, hn, a, hok⟩
  · have hv' : s.UnderWay va (v.withAllocation a) := { hv with }
    exact (translateFill_next hv' ha h).imp_left fun ⟨ht, hn⟩ => ⟨ht, hn, a, hok⟩

/-- How a TRANSLATE in `IDLE` ends where it ends in a state (R14, R161): it has not happened (U10), or it comes to a result, or
its read fails. -/
theorem execTranslate_next (hp : s.phase = .idle) (h : execTranslate va s = .next t) :
    (t = s ∧ s.answers = [] ∧ s.AsksTheReader va) ∨
    (∃ u b, s.UnderWay va u ∧ t = (u.withValue b).respond) ∨
    (∃ u k, s.UnderWay va u ∧ t = u.takeBackingStoreFault k (pageOf va)) := by
  have begun : s.UnderWay va (s.accept va).splitVa := ⟨rfl, rfl, rfl, rfl, rfl, rfl, .inl rfl, rfl, rfl⟩
  rcases execTranslate_cases va s hp with ⟨f, _, e⟩ | ⟨f, _, _, e⟩ | ⟨htlb, hpt, e⟩ <;> rw [e] at h
  · refine .inr (.inl (State.UnderWay.finish ?_ h))
    exact { begun with }
  · refine .inr (.inl (State.UnderWay.finish ?_ h))
    exact { begun with }
  · have missed : s.UnderWay va ((s.accept va).splitVa.flagTlbMiss.flagPageFault true) := { begun with }
    rcases translateFault_next missed rfl h with ⟨ht, hn, hok⟩ | hend
    · exact .inl ⟨ht, hn, htlb, hpt, (exists_ptAllocate_ok_iff s.params s.rq s.allocCount hpt).mp hok⟩
    · exact .inr hend

/-! ## The constants and the inputs -/

/-- From `s` to `t` the constants of the run and the levels on the input ports stay, and at most the first request and the
first answer are used up. -/
structure State.KeepsInputs (s t : State) : Prop where
  params : t.params = s.params
  store : t.store = s.store
  level : t.level = s.level
  resetPin : t.resetPin = s.resetPin
  respReady : t.respReady = s.respReady
  requests : t.requests = s.requests ∨ t.requests = s.requests.tail
  answers : t.answers = s.answers ∨ t.answers = s.answers.tail

theorem State.KeepsInputs.refl (s : State) : s.KeepsInputs s := ⟨rfl, rfl, rfl, rfl, rfl, .inl rfl, .inl rfl⟩

theorem State.respond_keepsInputs (s : State) : s.KeepsInputs s.respond := by constructor <;> simp

theorem State.UnderWay.respond_keepsInputs (h : s.UnderWay va u) (b : Byte) :
    s.KeepsInputs (u.withValue b).respond := by
  constructor <;> simp [h.params, h.level, h.store, h.resetPin, h.respReady, h.requests, h.answers]

theorem execTranslate_keepsInputs (h : execTranslate va s = .next t) : s.KeepsInputs t := by
  by_cases hp : s.phase = .idle
  · rcases execTranslate_next hp h with ⟨rfl, _, _⟩ | ⟨u, b, hu, rfl⟩ | ⟨u, k, hu, rfl⟩
    · exact .refl _
    · exact hu.respond_keepsInputs b
    · exact ⟨hu.params, hu.store, hu.level, hu.resetPin, hu.respReady, .inr hu.requests, hu.answers⟩
  · rw [execTranslate, if_neg hp] at h
    cases h
    exact .refl _

theorem execPtAlloc_keepsInputs (h : execPtAlloc s = .next t) : s.KeepsInputs t := by
  rcases execPtAlloc_cases s with ⟨r, _, e⟩ | ⟨u, hu, e⟩ <;> rw [e] at h <;> cases h
  obtain ⟨a, _, rfl⟩ := State.allocate_ok hu
  exact ⟨rfl, rfl, rfl, rfl, rfl, .inl rfl, .inl rfl⟩

theorem execBsFill_keepsInputs (h : execBsFill s = .next t) : s.KeepsInputs t := by
  rcases execBsFill_cases s with ⟨_, e⟩ | ⟨_, _, k, _, _, e⟩ | ⟨_, e⟩ | ⟨_, _, _, _, e⟩ <;> rw [e] at h <;> cases h
  · exact ⟨rfl, rfl, rfl, rfl, rfl, .inl rfl, .inl rfl⟩
  · exact ⟨rfl, rfl, rfl, rfl, rfl, .inl rfl, .inr rfl⟩
  · exact ⟨rfl, rfl, rfl, rfl, rfl, .inl rfl, .inr rfl⟩

/-- Every operation keeps the constants and the inputs. -/
theorem exec_keepsInputs {i : Instr} (h : exec i s = .next t) : s.KeepsInputs t := by
  cases i with
  | translate va => exact execTranslate_keepsInputs h
  | ptAlloc => exact execPtAlloc_keepsInputs h
  | bsFill => exact execBsFill_keepsInputs h
  | tlbLookup =>
    rcases execTlbLookup_cases s with ⟨f, _, e⟩ | ⟨_, e⟩ <;> cases e.symm.trans h <;>
      exact ⟨rfl, rfl, rfl, rfl, rfl, .inl rfl, .inl rfl⟩
  | ptLookup =>
    rcases execPtLookup_cases s with ⟨f, _, e⟩ | ⟨_, e⟩ <;> cases e.symm.trans h <;>
      exact ⟨rfl, rfl, rfl, rfl, rfl, .inl rfl, .inl rfl⟩
  | memRead =>
    rcases execMemRead_cases s with ⟨b, _, _, e⟩ | ⟨r, _, e⟩ <;> cases e.symm.trans h
    exact ⟨rfl, rfl, rfl, rfl, rfl, .inl rfl, .inl rfl⟩
  | respond =>
    cases h
    exact s.respond_keepsInputs
  | vaSplit | tlbInval | tlbInsert | paCombine | reset =>
    cases h
    exact ⟨rfl, rfl, rfl, rfl, rfl, .inl rfl, .inl rfl⟩

theorem step_keepsInputs (h : step s = .next t) : s.KeepsInputs t := by
  rcases step_cases s with ⟨_, e⟩ | ⟨_, _, e⟩ | ⟨_, _, _, e⟩ | ⟨i, _, _, _, e⟩ <;> rw [e] at h
  · cases h
  · cases h
    exact ⟨rfl, rfl, rfl, rfl, rfl, .inr rfl, .inl rfl⟩
  · cases h
    exact .refl _
  · exact exec_keepsInputs h

/-- Settles O53: from what each operation keeps (`exec_keepsInputs`). -/
theorem parametersStoreAndInputsStay : Obligations.ParametersStoreAndInputsStay := by
  intro s t h
  obtain ⟨params, store, level, resetPin, respReady, requests, answers⟩ := step_keepsInputs h
  exact ⟨params, store, level, resetPin, respReady, requests, answers⟩

/-! ## The selected operation -/

theorem acceptsOnly_of_inReset (h : s.resetPin = true) : s.acceptsOnly = false := by
  simp [State.acceptsOnly, State.reqReady, h]

theorem acceptsOnly_of_transaction (h : s.level = .transaction) : s.acceptsOnly = false := by
  simp [State.acceptsOnly, h]

theorem acceptsOnly_of_not_idle (h : s.phase ≠ .idle) : s.acceptsOnly = false := by
  simp [State.acceptsOnly, State.reqReady, h]

/-- Outside `IDLE` the operation is the one that the phase code decodes to (R100). -/
theorem fetch_of_decode {i : Instr} (hr : s.resetPin = false) (hp : s.phase ≠ .idle)
    (h : decode (.seq4 (phaseCode s.phase)) = .ok i) : fetch s = some i := by
  simp [fetch, fetchWord, hr, hp, h]

/-- A step that does not only accept a request runs the operation that is fetched. -/
theorem step_of_fetch {i : Instr} (hw : s.params.wf = true) (ha : s.acceptsOnly = false) (hf : fetch s = some i) :
    step s = exec i s := by
  simp [step, hw, ha, hf]

/-- At the transaction level in `IDLE` a step runs the TRANSLATE of the first request (R14). -/
theorem step_transaction (hw : s.params.wf = true) (hl : s.level = .transaction) (hr : s.resetPin = false)
    (hp : s.phase = .idle) (hq : s.requests.head? = some va) : step s = exec (.translate va) s :=
  step_of_fetch hw (acceptsOnly_of_transaction hl) (by rw [fetch_idle hr hp, hq]; rfl)

/-- Settles O8: the pin, the level or the phase decides what is fetched. -/
theorem stepRunsTheSelectedOperation : Obligations.StepRunsTheSelectedOperation := by
  intro s hw
  refine ⟨fun hr => ?_, fun hr hp hl va rest hq => ?_, fun hr i hi => ?_⟩
  · exact step_of_fetch hw (acceptsOnly_of_inReset hr) (fetch_inReset hr)
  · exact step_transaction hw hl hr hp (by rw [hq]; rfl)
  · have hp : s.phase ≠ .idle := by
      intro hp
      rw [hp] at hi
      cases hi
    exact step_of_fetch hw (acceptsOnly_of_not_idle hp) (fetch_of_decode hr hp hi)

end Sys2Proof.Machine
end

section
/-! A transaction is one step (R14): where it needs an answer of the reader that is not there it has not happened (U10),
and else it ends whole. -/

namespace Sys2Proof.Machine

variable {s t u : State} {va : Vaddr}

/-- Where a step changes nothing, no number of steps does. -/
theorem run_eq_self_of_step (h : step s = .next s) (n : Nat) : Host.Core.run Sys2Proof.core n s = .next s := by
  have hs : Sys2Proof.core.step s = .next s := h
  induction n with
  | zero => rfl
  | succ n ih => simpa only [Host.Core.run, hs] using ih

/-- A TRANSLATE that needs the reader's answer leaves the whole state as it was while there is none (U10). -/
theorem execTranslate_of_asks (hp : s.phase = .idle) (h : s.AsksTheReader va) (ha : s.answers = []) :
    execTranslate va s = .next s := by
  obtain ⟨htlb, hpt, hframe⟩ := h
  obtain ⟨a, hok⟩ := (exists_ptAllocate_ok_iff s.params s.rq s.allocCount hpt).mpr hframe
  have waits {v : State} (hv : v.answers = []) : translateFill s v = .next s := by
    simp [translateFill, State.fill, hv]
  rcases execTranslate_cases va s hp with ⟨f, hf, _⟩ | ⟨f, _, hf, _⟩ | ⟨_, _, e⟩
  · simp [htlb] at hf
  · simp [hpt] at hf
  · rw [e]
    rcases translateFault_cases s ((s.accept va).splitVa.flagTlbMiss.flagPageFault true) with
      ⟨r, hr, _⟩ | ⟨a', _, _, e'⟩ | ⟨a', _, _, e'⟩
    · simp [State.allocate, hok] at hr
    · rw [e']
      exact waits ha
    · rw [e']
      exact waits ha

/-- Settles O43: the transaction waits (`execTranslate_of_asks`), and a step that changes nothing repeats. -/
theorem translateHappensOnlyWithTheAnswer : Obligations.TranslateHappensOnlyWithTheAnswer := by
  intro va s hp hasks ha
  have hexec : exec (.translate va) s = .next s := execTranslate_of_asks hp hasks ha
  exact ⟨hexec, fun hw hr hl hq n => run_eq_self_of_step ((step_transaction hw hl hr hp hq).trans hexec) n⟩

theorem causeOf_ne_none (k : FailKind) : causeOf k ≠ .none := by cases k <;> decide

/-- A result on its way out is delivered in `IDLE` or stands in `RESP`, as the driver's readiness has it (R95). -/
theorem State.UnderWay.respond_ends (h : s.UnderWay va u) (b : Byte) :
    (∃ r, s.respReady = true ∧ (u.withValue b).respond.delivered = s.delivered ++ [r] ∧
      (u.withValue b).respond.phase = .idle) ∨
    (s.respReady = false ∧ (u.withValue b).respond.delivered = s.delivered ∧ (u.withValue b).respond.phase = .resp) := by
  cases hr : s.respReady with
  | true =>
    rw [State.respond_ready _ (by simp [h.respReady, hr])]
    exact .inl ⟨_, rfl, by rw [State.deliver_delivered, State.withValue_delivered, h.delivered], rfl⟩
  | false =>
    rw [State.respond_notReady _ (by simp [h.respReady, hr])]
    exact .inr ⟨rfl, h.delivered, rfl⟩

/-- Settles O44: the three ways in which a TRANSLATE ends (`execTranslate_next`). -/
theorem transactionStepIsWhole : Obligations.TransactionStepIsWhole := by
  intro s t va rest hl hr hp hq h
  have hw : s.params.wf = true := by
    rcases step_cases s with ⟨_, e⟩ | ⟨hw, _⟩ | ⟨hw, _⟩ | ⟨_, hw, _⟩
    · cases e.symm.trans h
    all_goals exact hw
  rw [step_transaction hw hl hr hp (by rw [hq]; rfl)] at h
  have htail : s.requests.tail = rest := by rw [hq]; rfl
  rcases execTranslate_next hp h with hstay | ⟨u, b, hu, rfl⟩ | ⟨u, k, hu, rfl⟩
  · exact .inl hstay
  · refine .inr ⟨by simp [hu.requests, htail], ?_⟩
    rcases hu.respond_ends b with hready | ⟨hnot, hdel, hresp⟩
    · exact .inl hready
    · exact .inr (.inl ⟨hnot, hdel, hresp, by simp [State.respValid, hresp, hu.resetPin, hr]⟩)
  · exact .inr ⟨hu.requests.trans htail, .inr (.inr ⟨rfl, hu.delivered, causeOf_ne_none k, rfl⟩)⟩

end Sys2Proof.Machine
end

section
/-! The frames, the TLB, and the page table with its replacement queue and counter (R50 to R55): what TLB.INSERT and PT.ALLOC do
to them (R112, R134, R135). -/

namespace Sys2Proof.Machine

theorem Params.wf_iff (c : Params) :
    c.wf = true ↔ 1 ≤ c.numFrames ∧ c.numFrames ≤ 256 ∧ 1 ≤ c.tlbSize ∧ c.bsPages ≤ 256 := by
  simp [Params.wf, Params.framesOk, Params.tlbOk, Params.storeOk, and_assoc]

/-! ## Frames -/

/-- An address in one frame is in no other. -/
theorem outside_frame {f g : Frame} (h : f ≠ g) {o : Nat} (ho : o < pageSize) :
    frameBase f + o < frameBase g ∨ frameBase g + pageSize ≤ frameBase f + o := by
  have : f.toNat ≠ g.toNat := fun e => h (BitVec.eq_of_toNat_eq e)
  simp only [frameBase, pageSize] at *
  omega

/-- The addresses of a frame below `NUM_FRAMES` are below `MEM_BYTES` (R62). -/
theorem lt_memBytes_of_frame {c : Params} {f : Frame} (hf : f.toNat < c.numFrames) {a : Nat}
    (ha : a < frameBase f + pageSize) : a < c.memBytes := by
  have hle : frameBase f + pageSize ≤ c.memBytes := by
    rw [frameBase, Params.memBytes, ← Nat.succ_mul]
    exact Nat.mul_le_mul_right _ hf
  omega

/-! ## The TLB -/

/-- TLB.INSERT of a page that no entry is for keeps the pages distinct (R51). -/
theorem tlbPush_pages_nodup {size : Nat} {tlb : List Entry} {p : Page} (f : Frame)
    (h : (tlb.map Entry.page).Nodup) (hp : ∀ e ∈ tlb, e.page ≠ p) :
    ((tlbPush size tlb p f).map Entry.page).Nodup := by
  have push {l : List Entry} (hl : List.Sublist l tlb) : ((l ++ [Entry.mk p f]).map Entry.page).Nodup := by
    have hnodup := (hl.map Entry.page).nodup h
    simpa [List.nodup_append, hnodup] using fun e he => hp e (hl.subset he)
  unfold tlbPush
  split
  · exact push (List.tail_sublist _)
  · exact push (List.Sublist.refl _)

/-! ## The page table, the queue and the counter -/

/-- PT.ALLOC puts the new pair at the back of the queue, behind pairs that were there before (R132). -/
theorem ptAllocate_rq {c : Params} {pt : PageTable} {rq : List Entry} {count : Nat} {p : Page} {a : Allocation}
    (ha : ptAllocate c pt rq count p = .ok a) : ∃ kept, a.rq = kept ++ [Entry.mk p a.frame] ∧ ∀ e ∈ kept, e ∈ rq := by
  obtain ⟨_, ⟨_, rfl⟩ | ⟨victim, rest, _, rfl, rfl⟩⟩ := ptAllocate_ok_cases ha
  · exact ⟨rq, rfl, fun _ he => he⟩
  · exact ⟨rest, rfl, fun _ he => List.mem_cons_of_mem _ he⟩

/-- The rules about the page table, the replacement queue and the counter: R52 to R55. -/
structure State.QueueOk (s : State) : Prop where
  counted : s.QueueCounted
  agrees : s.TableAgreesWithQueue
  distinct : s.QueueDistinct
  roundRobin : s.RoundRobin

namespace State.QueueOk

variable {s : State} {p : Page}

/-- Every frame in the queue has been handed out. -/
theorem frame_lt_allocCount (h : s.QueueOk) {e : Entry} (he : e ∈ s.rq) : e.frame.toNat < s.allocCount := by
  obtain ⟨hlen, hle⟩ := h.counted
  obtain ⟨hfree, hfull⟩ := h.roundRobin
  obtain ⟨i, hi, rfl⟩ := List.mem_iff_getElem.mp he
  rcases Nat.lt_or_eq_of_le hle with hc | hc
  · have := hfree hc i _ (List.getElem?_eq_getElem hi)
    omega
  · obtain ⟨_, hrot⟩ := hfull hc _ (List.getElem?_eq_getElem (by omega))
    rw [hrot i _ (List.getElem?_eq_getElem hi), hc]
    exact Nat.mod_lt _ (by omega)

/-- No pair in the queue is for an absent page. -/
theorem page_ne_of_absent (h : s.QueueOk) (hp : ptGet s.pt p = none) {e : Entry} (he : e ∈ s.rq) : e.page ≠ p := by
  rintro rfl
  have := (h.agrees e.page e.frame).mpr he
  simp [hp] at this

/-- While frames are free, the next one goes to index `alloc_count` (R55). -/
theorem frame_at_of_free (h : s.QueueOk) (hc : s.allocCount < s.params.numFrames) {f : Frame}
    (hf : f.toNat = s.allocCount) {i : Nat} {e : Entry} (he : (s.rq ++ [Entry.mk p f])[i]? = some e) :
    e.frame.toNat = i := by
  obtain ⟨hlen, _⟩ := h.counted
  rcases Nat.lt_or_ge i s.rq.length with hi | hi
  · rw [List.getElem?_append_left hi] at he
    exact h.roundRobin.1 hc i e he
  · rw [List.getElem?_append_right hi, List.getElem?_singleton] at he
    split at he <;> cases he
    show f.toNat = i
    omega

/-- The free-frame path of PT.ALLOC keeps R52 to R55 (R134). -/
theorem allocFree (h : s.QueueOk) (hN : s.params.numFrames ≤ 256) (hp : ptGet s.pt p = none)
    (hc : s.allocCount < s.params.numFrames) :
    (s.withAllocation (freeAllocation s.pt s.rq s.allocCount p)).QueueOk := by
  have hf : (BitVec.ofNat 8 s.allocCount).toNat = s.allocCount := by
    rw [BitVec.toNat_ofNat]
    omega
  have habs {e : Entry} (he : e ∈ s.rq) : e.page ≠ p := h.page_ne_of_absent hp he
  have hnew {e : Entry} (he : e ∈ s.rq) : e.frame ≠ BitVec.ofNat 8 s.allocCount := fun heq => by
    have := h.frame_lt_allocCount he
    rw [heq, hf] at this
    omega
  obtain ⟨hlen, _⟩ := h.counted
  obtain ⟨hframes, hpages⟩ := h.distinct
  constructor
  case counted => exact ⟨by simp [freeAllocation, hlen], hc⟩
  case agrees =>
    intro q f
    simp only [withAllocation_pt, withAllocation_rq, freeAllocation, ptGet_ptSet, List.mem_append, List.mem_singleton,
      Entry.mk.injEq]
    by_cases hq : q = p
    · subst hq
      simpa [eq_comm] using fun hm => absurd rfl (habs hm)
    · simp [hq, h.agrees q f]
  case distinct =>
    constructor
    · simpa [freeAllocation, List.nodup_append, hframes] using fun e he => hnew he
    · simpa [freeAllocation, List.nodup_append, hpages] using fun e he => habs he
  case roundRobin =>
    refine ⟨fun _ i e he => h.frame_at_of_free hc hf he, fun hfull front h0 => ?_⟩
    have hfull : s.allocCount + 1 = s.params.numFrames := hfull
    have hfront : front.frame.toNat = 0 := h.frame_at_of_free hc hf h0
    refine ⟨by simp only [withAllocation_params]; omega, fun i e he => ?_⟩
    have hi : i < (s.rq ++ [Entry.mk p (BitVec.ofNat 8 s.allocCount)]).length := (List.getElem?_eq_some_iff.mp he).1
    rw [h.frame_at_of_free hc hf he, hfront, withAllocation_params, Nat.zero_add, Nat.mod_eq_of_lt]
    simp only [List.length_append, List.length_singleton] at hi
    omega

variable {victim : Entry} {rest : List Entry}

/-- Once every frame is allocated, an eviction moves each pair one place forward and gives the front's frame to the back, so
that index `i` has the old front's frame plus `i + 1` (R55). -/
theorem frame_at_of_full (h : s.QueueOk) (hc : s.allocCount = s.params.numFrames) (hq : s.rq = victim :: rest)
    {i : Nat} {e : Entry} (he : (rest ++ [Entry.mk p victim.frame])[i]? = some e) :
    e.frame.toNat = (victim.frame.toNat + (i + 1)) % s.params.numFrames := by
  obtain ⟨hlen, _⟩ := h.counted
  obtain ⟨hlt, hrot⟩ := h.roundRobin.2 hc victim (by simp [hq])
  rcases Nat.lt_or_ge i rest.length with hi | hi
  · rw [List.getElem?_append_left hi] at he
    exact hrot (i + 1) e (by simpa [hq] using he)
  · rw [List.getElem?_append_right hi, List.getElem?_singleton] at he
    split at he <;> cases he
    have : i + 1 = s.params.numFrames := by
      simp only [hq, List.length_cons] at hlen
      omega
    rw [this, Nat.add_mod_right, Nat.mod_eq_of_lt hlt]

/-- The eviction path of PT.ALLOC keeps R52 to R55 (R135). -/
theorem allocEvicting (h : s.QueueOk) (hp : ptGet s.pt p = none) (hc : s.params.numFrames ≤ s.allocCount)
    (hq : s.rq = victim :: rest) :
    (s.withAllocation (evictingAllocation s.pt victim rest s.allocCount p)).QueueOk := by
  obtain ⟨hlen, hle⟩ := h.counted
  have hfull : s.allocCount = s.params.numFrames := by omega
  have habs {e : Entry} (he : e ∈ rest) : e.page ≠ p := h.page_ne_of_absent hp (by simp [hq, he])
  have hvictim : victim.page ≠ p := h.page_ne_of_absent hp (by simp [hq])
  obtain ⟨hframes, hpages⟩ := h.distinct
  simp only [hq, List.map_cons, List.nodup_cons, List.mem_map, not_exists, not_and] at hframes hpages
  constructor
  case counted => exact ⟨by simpa [evictingAllocation, hq] using hlen, hle⟩
  case agrees =>
    intro q f
    simp only [withAllocation_pt, withAllocation_rq, evictingAllocation, ptGet_ptSet, List.mem_append,
      List.mem_singleton, Entry.mk.injEq]
    by_cases hqp : q = p
    · subst hqp
      simpa [eq_comm] using fun hm => absurd rfl (habs hm)
    · by_cases hqv : q = victim.page
      · simpa [hqp, hqv, hvictim] using hpages.1 (Entry.mk victim.page f)
      · have hne : Entry.mk q f ≠ victim := fun heq => hqv (congrArg Entry.page heq)
        simp [hqp, hqv, h.agrees q f, hq, hne]
  case distinct =>
    constructor
    · simpa [evictingAllocation, List.nodup_append, hframes.2] using hframes.1
    · simpa [evictingAllocation, List.nodup_append, hpages.2] using fun e he => habs he
  case roundRobin =>
    refine ⟨fun hlt => absurd hlt (by simpa [evictingAllocation] using hc), fun _ front h0 => ?_⟩
    have hfront := h.frame_at_of_full hfull hq h0
    have hpos : 0 < s.params.numFrames := by simp [← hfull, ← hlen, hq]
    refine ⟨by rw [hfront]; exact Nat.mod_lt _ hpos, fun i e he => ?_⟩
    rw [h.frame_at_of_full hfull hq he, hfront, withAllocation_params, Nat.mod_add_mod]
    congr 1
    omega

end State.QueueOk

end Sys2Proof.Machine
end

section
/-! Every step keeps the invariant. Its rules but the atomicity of R14 are the predicate `State.Sound`, which every
phase of R163 keeps. A transaction is shown to keep it as the walk through its phases: its intermediate states are those of
the walk with another phase in the phase register. -/

namespace Sys2Proof.Machine

variable {s t u : State} {va : Vaddr}

/-! ## The invariant without the atomicity of transactions -/

/-- The invariant but for R14. -/
structure State.Sound (s : State) : Prop where
  paramsWf : s.params.wf = true
  memoryOk : s.MemoryOk
  tlbWithinCapacity : s.TlbWithinCapacity
  tlbPagesDistinct : s.TlbPagesDistinct
  queue : s.QueueOk
  residentFilled : s.ResidentFilled
  tlbPointsSoundly : s.TlbPointsSoundly
  phaseOk : s.PhaseOk
  causeAgreesWithHalt : s.CauseAgreesWithHalt

theorem State.inv_iff_sound (s : State) : s.Inv ↔ s.Sound ∧ s.TransactionsWhole := by
  constructor
  · rintro ⟨hw, hm, hcap, hdist, hcnt, hagree, hqd, hrr, hres, hpts, hph, hcause, hwhole⟩
    exact ⟨⟨hw, hm, hcap, hdist, ⟨hcnt, hagree, hqd, hrr⟩, hres, hpts, hph, hcause⟩, hwhole⟩
  · rintro ⟨⟨hw, hm, hcap, hdist, ⟨hcnt, hagree, hqd, hrr⟩, hres, hpts, hph, hcause⟩, hwhole⟩
    exact ⟨hw, hm, hcap, hdist, hcnt, hagree, hqd, hrr, hres, hpts, hph, hcause, hwhole⟩

/-! ## What the rules say in each phase -/

/-- The phases in which the pair at the back of the queue may not be filled (R56). -/
def Phase.fillPending : Phase → Bool
  | .inval | .fill | .halt => true
  | _ => false

theorem State.filledPairs_eq (s : State) :
    s.filledPairs = if s.phase.fillPending then s.rq.dropLast else s.rq := by
  unfold State.filledPairs
  cases s.phase <;> rfl

/-- Where no fill is to come, R56 speaks of every pair of the queue. -/
theorem State.residentFilled_iff (h : s.phase.fillPending = false) :
    s.ResidentFilled ↔ ∀ e ∈ s.rq, s.Holds e := by
  simp [State.ResidentFilled, State.filledPairs_eq, h]

/-- Where a fill is to come or has failed, R56 speaks of every pair but the one at the back. -/
theorem State.residentFilled_iff_dropLast (h : s.phase.fillPending = true) :
    s.ResidentFilled ↔ ∀ e ∈ s.rq.dropLast, s.Holds e := by
  simp [State.ResidentFilled, State.filledPairs_eq, h]

/-- What R57 says of a TLB entry outside the phase `INVAL`. -/
def State.Backs (s : State) (e : Entry) : Prop :=
  e.frame.toNat < s.allocCount ∧
    (ptGet s.pt e.page = some e.frame ∨ (ptGet s.pt e.page = none ∧ s.params.policy = .preserve))

theorem State.tlbPointsSoundly_iff (h : s.phase ≠ .inval) : s.TlbPointsSoundly ↔ ∀ e ∈ s.tlb, s.Backs e := by
  simp [State.TlbPointsSoundly, State.Backs, h]

/-- An entry of the queue backs the TLB entry with its page and frame. -/
theorem State.QueueOk.backs (h : s.QueueOk) {e : Entry} (he : ptGet s.pt e.page = some e.frame) : s.Backs e :=
  ⟨h.frame_lt_allocCount ((h.agrees _ _).mp he), .inl he⟩

/-- What R57 says of the TLB entries for other pages stays when PT.ALLOC maps an absent page; an entry for the evicted page may
be left without one (R116). -/
theorem State.Backs.of_ptAllocate {a : Allocation} {e : Entry} (he : s.Backs e) (hne : e.page ≠ s.curPage)
    (ha : ptAllocate s.params s.pt s.rq s.allocCount s.curPage = .ok a) :
    e.frame.toNat < a.allocCount ∧
      (ptGet a.pt e.page = some e.frame ∨
        (ptGet a.pt e.page = none ∧ (s.params.policy = .preserve ∨ a.evicted = some e.page))) := by
  obtain ⟨hlt, hmap⟩ := he
  obtain ⟨_, ⟨_, rfl⟩ | ⟨victim, rest, _, _, rfl⟩⟩ := ptAllocate_ok_cases ha
  · simp only [freeAllocation, ptGet_ptSet, if_neg hne]
    exact ⟨by omega, hmap.imp_right fun ⟨hn, hpol⟩ => ⟨hn, .inl hpol⟩⟩
  · simp only [evictingAllocation, ptGet_ptSet, if_neg hne]
    refine ⟨hlt, ?_⟩
    by_cases hv : e.page = victim.page
    · exact .inr ⟨if_pos hv, .inr (by rw [hv])⟩
    · rw [if_neg hv]
      exact hmap.imp_right fun ⟨hn, hpol⟩ => ⟨hn, .inl hpol⟩

theorem State.phaseOk_tlbl (h : s.phase = .tlbl) : s.PhaseOk ↔ s.Split := by simp only [State.PhaseOk, h]

theorem State.phaseOk_ptl (h : s.phase = .ptl) : s.PhaseOk ↔ s.Split ∧ s.Missed ∧ s.resTlbHit = false := by
  simp only [State.PhaseOk, h]

theorem State.phaseOk_alloc (h : s.phase = .alloc) :
    s.PhaseOk ↔ s.Split ∧ s.Missed ∧ s.resTlbHit = false ∧ s.resPageFault = true ∧ ptGet s.pt s.curPage = none := by
  simp only [State.PhaseOk, h]

theorem State.phaseOk_inval (h : s.phase = .inval) :
    s.PhaseOk ↔ s.Split ∧ s.Missed ∧ s.resTlbHit = false ∧ s.resPageFault = true ∧ s.JustAllocated ∧
      s.params.policy = .invalidate ∧ s.evictValid = true ∧ ptGet s.pt s.evictPage = none := by
  simp only [State.PhaseOk, h]

theorem State.phaseOk_fill (h : s.phase = .fill) :
    s.PhaseOk ↔ s.Split ∧ s.Missed ∧ s.resTlbHit = false ∧ s.resPageFault = true ∧ s.JustAllocated := by
  simp only [State.PhaseOk, h]

theorem State.phaseOk_tlbi (h : s.phase = .tlbi) :
    s.PhaseOk ↔ s.Split ∧ s.Missed ∧ s.resTlbHit = false ∧ ptGet s.pt s.curPage = some s.curFrame := by
  simp only [State.PhaseOk, h]

theorem State.phaseOk_comb (h : s.phase = .comb) : s.PhaseOk ↔ s.Split ∧ s.Served := by
  simp only [State.PhaseOk, h]

theorem State.phaseOk_read (h : s.phase = .read) :
    s.PhaseOk ↔ s.Split ∧ s.Served ∧ s.resPaddr = combine s.curFrame s.curOffset := by
  simp only [State.PhaseOk, h]

theorem State.phaseOk_resp (h : s.phase = .resp) :
    s.PhaseOk ↔ s.Split ∧ s.Served ∧ s.resPaddr = combine s.curFrame s.curOffset ∧
      s.mem.read s.resPaddr.toNat = some s.resValue := by
  simp only [State.PhaseOk, h]

theorem State.causeAgreesWithHalt_iff (h : s.phase ≠ .halt) : s.CauseAgreesWithHalt ↔ s.errCause = .none := by
  simp [State.CauseAgreesWithHalt, h]

/-! ## The phases that write registers only -/

/-- `t` has the parameters, the store and the structures of R21 to R27 of `s`. -/
structure State.SameTables (s t : State) : Prop where
  params : t.params = s.params
  store : t.store = s.store
  tlb : t.tlb = s.tlb
  pt : t.pt = s.pt
  rq : t.rq = s.rq
  allocCount : t.allocCount = s.allocCount
  mem : t.mem = s.mem

namespace State.Sound

theorem holds (h : s.Sound) (hs : s.phase.fillPending = false) : ∀ e ∈ s.rq, s.Holds e :=
  (State.residentFilled_iff hs).mp h.residentFilled

theorem holds_dropLast (h : s.Sound) (hs : s.phase.fillPending = true) : ∀ e ∈ s.rq.dropLast, s.Holds e :=
  (State.residentFilled_iff_dropLast hs).mp h.residentFilled

theorem backs (h : s.Sound) (hs : s.phase ≠ .inval) : ∀ e ∈ s.tlb, s.Backs e :=
  (State.tlbPointsSoundly_iff hs).mp h.tlbPointsSoundly

theorem noCause (h : s.Sound) (hs : s.phase ≠ .halt) : s.errCause = .none :=
  (State.causeAgreesWithHalt_iff hs).mp h.causeAgreesWithHalt

/-- A move between phases without a pending fill that writes registers only has to account for what the next phase relies on,
and for nothing else. -/
theorem of_registers (h : s.Sound) (same : s.SameTables t) (hs : s.phase.fillPending = false)
    (ht : t.phase.fillPending = false) (hc : t.errCause = s.errCause) (hp : t.PhaseOk) : t.Sound := by
  have running {p : Phase} (hq : p.fillPending = false) : p ≠ .inval ∧ p ≠ .halt := by
    constructor <;> rintro rfl <;> cases hq
  obtain ⟨params, store, tlb, pt, rq, allocCount, mem⟩ := same
  have hqueue := h.queue
  constructor
  case paramsWf => simpa only [params] using h.paramsWf
  case memoryOk => simpa only [State.MemoryOk, params, mem] using h.memoryOk
  case tlbWithinCapacity => simpa only [State.TlbWithinCapacity, params, tlb] using h.tlbWithinCapacity
  case tlbPagesDistinct => simpa only [State.TlbPagesDistinct, tlb] using h.tlbPagesDistinct
  case queue =>
    constructor
    · simpa only [State.QueueCounted, params, rq, allocCount] using hqueue.counted
    · simpa only [State.TableAgreesWithQueue, pt, rq] using hqueue.agrees
    · simpa only [State.QueueDistinct, rq] using hqueue.distinct
    · simpa only [State.RoundRobin, params, rq, allocCount] using hqueue.roundRobin
  case residentFilled =>
    rw [State.residentFilled_iff ht]
    simpa only [State.Holds, rq, mem, store] using h.holds hs
  case tlbPointsSoundly =>
    rw [State.tlbPointsSoundly_iff (running ht).1]
    simpa only [State.Backs, tlb, pt, params, allocCount] using
      h.backs (running hs).1
  case phaseOk => exact hp
  case causeAgreesWithHalt =>
    rw [State.causeAgreesWithHalt_iff (running ht).2, hc]
    exact h.noCause (running hs).2

theorem accept (h : s.Sound) (hp : s.phase = .idle) (va : Vaddr) : (s.accept va).Sound :=
  h.of_registers ⟨rfl, rfl, rfl, rfl, rfl, rfl, rfl⟩ (by rw [hp]; rfl) rfl rfl trivial

theorem splitVa (h : s.Sound) (hp : s.phase = .split) : (s.splitVa.goto .tlbl).Sound :=
  h.of_registers ⟨rfl, rfl, rfl, rfl, rfl, rfl, rfl⟩ (by rw [hp]; rfl) rfl rfl
    ((State.phaseOk_tlbl rfl).mpr ⟨rfl, rfl⟩)

theorem onTlbHit (h : s.Sound) (hp : s.phase = .tlbl) {f : Frame} (hf : tlbFind s.tlb s.curPage = some f) :
    ((s.onTlbHit f).goto .comb).Sound := by
  have hsplit := (State.phaseOk_tlbl hp).mp h.phaseOk
  exact h.of_registers ⟨rfl, rfl, rfl, rfl, rfl, rfl, rfl⟩ (by rw [hp]; rfl) rfl rfl
    ((State.phaseOk_comb rfl).mpr ⟨hsplit, tlbFind_mem hf, by simp⟩)

theorem flagTlbMiss (h : s.Sound) (hp : s.phase = .tlbl) (hf : tlbFind s.tlb s.curPage = none) :
    (s.flagTlbMiss.goto .ptl).Sound := by
  have hsplit := (State.phaseOk_tlbl hp).mp h.phaseOk
  exact h.of_registers ⟨rfl, rfl, rfl, rfl, rfl, rfl, rfl⟩ (by rw [hp]; rfl) rfl rfl
    ((State.phaseOk_ptl rfl).mpr ⟨hsplit, tlbFind_eq_none_iff.mp hf, rfl⟩)

theorem onPtHit (h : s.Sound) (hp : s.phase = .ptl) {f : Frame} (hf : ptGet s.pt s.curPage = some f) :
    ((s.onPtHit f).goto .tlbi).Sound := by
  obtain ⟨hsplit, hmiss, hflag⟩ := (State.phaseOk_ptl hp).mp h.phaseOk
  exact h.of_registers ⟨rfl, rfl, rfl, rfl, rfl, rfl, rfl⟩ (by rw [hp]; rfl) rfl rfl
    ((State.phaseOk_tlbi rfl).mpr ⟨hsplit, hmiss, hflag, hf⟩)

theorem flagPageFault (h : s.Sound) (hp : s.phase = .ptl) (hf : ptGet s.pt s.curPage = none) :
    ((s.flagPageFault true).goto .alloc).Sound := by
  obtain ⟨hsplit, hmiss, hflag⟩ := (State.phaseOk_ptl hp).mp h.phaseOk
  exact h.of_registers ⟨rfl, rfl, rfl, rfl, rfl, rfl, rfl⟩ (by rw [hp]; rfl) rfl rfl
    ((State.phaseOk_alloc rfl).mpr ⟨hsplit, hmiss, hflag, rfl, hf⟩)

theorem combinePa (h : s.Sound) (hp : s.phase = .comb) : (s.combinePa.goto .read).Sound := by
  obtain ⟨hsplit, hserved⟩ := (State.phaseOk_comb hp).mp h.phaseOk
  exact h.of_registers ⟨rfl, rfl, rfl, rfl, rfl, rfl, rfl⟩ (by rw [hp]; rfl) rfl rfl
    ((State.phaseOk_read rfl).mpr ⟨hsplit, hserved, rfl⟩)

theorem withValue (h : s.Sound) (hp : s.phase = .read) {b : Byte} (hb : s.mem.read s.resPaddr.toNat = some b) :
    ((s.withValue b).goto .resp).Sound := by
  obtain ⟨hsplit, hserved, haddr⟩ := (State.phaseOk_read hp).mp h.phaseOk
  exact h.of_registers ⟨rfl, rfl, rfl, rfl, rfl, rfl, rfl⟩ (by rw [hp]; rfl) rfl rfl
    ((State.phaseOk_resp rfl).mpr ⟨hsplit, hserved, haddr, hb⟩)

theorem respond (h : s.Sound) (hp : s.phase = .resp) : s.respond.Sound := by
  cases hr : s.respReady with
  | true =>
    rw [State.respond_ready s hr]
    exact h.of_registers ⟨rfl, rfl, rfl, rfl, rfl, rfl, rfl⟩ (by rw [hp]; rfl) rfl rfl trivial
  | false =>
    rw [State.respond_notReady s hr, State.goto_self s .resp hp]
    exact h

/-! ## PT.ALLOC and TLB.INVAL -/

/-- PT.ALLOC keeps R52 to R55 on both of its paths. -/
theorem queue_withAllocation (h : s.Sound) {a : Allocation}
    (ha : ptAllocate s.params s.pt s.rq s.allocCount s.curPage = .ok a) : (s.withAllocation a).QueueOk := by
  obtain ⟨habs, ⟨hc, rfl⟩ | ⟨victim, rest, hc, hq, rfl⟩⟩ := ptAllocate_ok_cases ha
  · exact h.queue.allocFree ((Params.wf_iff _).mp h.paramsWf).2.1 habs hc
  · exact h.queue.allocEvicting habs hc hq

/-- The page that PT.ALLOC evicts is absent afterwards (R135). -/
theorem evicted_absent {a : Allocation} (h : s.Sound)
    (ha : ptAllocate s.params s.pt s.rq s.allocCount s.curPage = .ok a) {q : Page} (hq : a.evicted = some q) :
    ptGet a.pt q = none := by
  obtain ⟨habs, ⟨_, rfl⟩ | ⟨victim, rest, _, hrq, rfl⟩⟩ := ptAllocate_ok_cases ha
  · cases hq
  · cases hq
    have hne : victim.page ≠ s.curPage := h.queue.page_ne_of_absent habs (by simp [hrq])
    simp [evictingAllocation, ptGet_ptSet, hne]

theorem withAllocation (h : s.Sound) (hp : s.phase = .alloc) {a : Allocation}
    (ha : ptAllocate s.params s.pt s.rq s.allocCount s.curPage = .ok a) :
    ((s.withAllocation a).goto (if (s.withAllocation a).mustInvalidate then .inval else .fill)).Sound := by
  obtain ⟨hsplit, hmiss, hhit, hfault, _⟩ := (State.phaseOk_alloc hp).mp h.phaseOk
  have hbacks := h.backs (by simp [hp])
  have hholds := h.holds (by rw [hp]; rfl)
  obtain ⟨kept, hrq, hkept⟩ := ptAllocate_rq ha
  have hjust : (s.withAllocation a).JustAllocated := by simp [State.JustAllocated, hrq]
  have hfilled : ∀ e ∈ (s.withAllocation a).rq.dropLast, s.Holds e := by
    simpa [hrq] using fun e he => hholds e (hkept e he)
  have hcause := h.noCause (by simp [hp])
  have hpoints {e : Entry} (he : e ∈ s.tlb) := (hbacks e he).of_ptAllocate (hmiss e he) ha
  cases hm : (s.withAllocation a).mustInvalidate with
  | true =>
    obtain ⟨hpol, hev⟩ : s.params.policy = .invalidate ∧ a.evicted.isSome = true := by
      simpa [State.mustInvalidate] using hm
    obtain ⟨q, hq⟩ := Option.isSome_iff_exists.mp hev
    have habs : ptGet a.pt (a.evicted.getD s.evictPage) = none := by
      rw [hq]
      exact h.evicted_absent ha hq
    exact {
      paramsWf := h.paramsWf
      memoryOk := h.memoryOk
      tlbWithinCapacity := h.tlbWithinCapacity
      tlbPagesDistinct := h.tlbPagesDistinct
      queue := { h.queue_withAllocation ha with }
      residentFilled := (State.residentFilled_iff_dropLast rfl).mpr hfilled
      tlbPointsSoundly := fun e he => by
        simpa [hpol, hq, eq_comm] using hpoints he
      phaseOk := (State.phaseOk_inval rfl).mpr ⟨hsplit, hmiss, hhit, hfault, hjust, hpol, hev, habs⟩
      causeAgreesWithHalt := (State.causeAgreesWithHalt_iff (by simp)).mpr hcause }
  | false =>
    have hkeep : s.params.policy = .preserve ∨ a.evicted = none := by
      cases hpol : s.params.policy <;> simp_all [State.mustInvalidate]
    exact {
      paramsWf := h.paramsWf
      memoryOk := h.memoryOk
      tlbWithinCapacity := h.tlbWithinCapacity
      tlbPagesDistinct := h.tlbPagesDistinct
      queue := { h.queue_withAllocation ha with }
      residentFilled := (State.residentFilled_iff_dropLast rfl).mpr hfilled
      tlbPointsSoundly := (State.tlbPointsSoundly_iff (by simp)).mpr fun e he => by
        obtain ⟨hlt, hmap⟩ := hpoints he
        refine ⟨hlt, hmap.imp_right fun ⟨hn, hwhy⟩ => ⟨hn, ?_⟩⟩
        rcases hkeep with hpol | hnone
        · exact hpol
        · simpa [hnone] using hwhy
      phaseOk := (State.phaseOk_fill rfl).mpr ⟨hsplit, hmiss, hhit, hfault, hjust⟩
      causeAgreesWithHalt := (State.causeAgreesWithHalt_iff (by simp)).mpr hcause }

/-- TLB.INVAL takes out the entries that PT.ALLOC left without a page, the only ones that R57 allows in `INVAL` alone. -/
theorem invalidateTlb (h : s.Sound) (hp : s.phase = .inval) : (s.invalidateTlb.goto .fill).Sound := by
  obtain ⟨hsplit, hmiss, hhit, hfault, hjust, _⟩ := (State.phaseOk_inval hp).mp h.phaseOk
  have hsub : List.Sublist (tlbRemove s.tlb s.evictPage) s.tlb := List.filter_sublist
  exact {
    paramsWf := h.paramsWf
    memoryOk := h.memoryOk
    tlbWithinCapacity := hsub.length_le.trans h.tlbWithinCapacity
    tlbPagesDistinct := (hsub.map Entry.page).nodup h.tlbPagesDistinct
    queue := { h.queue with }
    residentFilled := (State.residentFilled_iff_dropLast rfl).mpr (h.holds_dropLast (by rw [hp]; rfl))
    tlbPointsSoundly := (State.tlbPointsSoundly_iff (by simp)).mpr fun e he => by
      obtain ⟨hmem, hne⟩ := mem_tlbRemove.mp he
      obtain ⟨hlt, hmap⟩ := h.tlbPointsSoundly e hmem
      exact ⟨hlt, by simpa [hne] using hmap⟩
    phaseOk := (State.phaseOk_fill rfl).mpr ⟨hsplit, fun e he => hmiss e (hsub.subset he), hhit, hfault, hjust⟩
    causeAgreesWithHalt := (State.causeAgreesWithHalt_iff (by simp)).mpr (h.noCause (by simp [hp])) }

/-! ## BS.FILL -/

/-- The pair being filled is the last of the queue, and the others have other frames (R54). -/
theorem rq_of_justAllocated (h : s.Sound) (hj : s.JustAllocated) :
    s.rq = s.rq.dropLast ++ [Entry.mk s.curPage s.curFrame] ∧ ∀ e ∈ s.rq.dropLast, e.frame ≠ s.curFrame := by
  have hrq : s.rq = s.rq.dropLast ++ [Entry.mk s.curPage s.curFrame] :=
    (List.dropLast_append_getLast? _ hj).symm
  refine ⟨hrq, ?_⟩
  have hnodup := h.queue.distinct.1
  rw [hrq, List.map_append, List.nodup_append] at hnodup
  obtain ⟨_, _, hne⟩ := hnodup
  exact fun e he => hne _ (List.mem_map_of_mem he) _ (by simp)

theorem takeBackingStoreFault (h : s.Sound) (hp : s.phase = .fill) (k : FailKind) :
    (s.useAnswer.takeBackingStoreFault k s.curPage).Sound := by
  obtain ⟨_, _, _, _, hjust⟩ := (State.phaseOk_fill hp).mp h.phaseOk
  obtain ⟨_, hother⟩ := h.rq_of_justAllocated hjust
  have hholds := h.holds_dropLast (by rw [hp]; rfl)
  obtain ⟨hwf, hbound⟩ := h.memoryOk
  exact {
    paramsWf := h.paramsWf
    memoryOk := ⟨Memory.erase_wf hwf _ _, fun c hc => hbound c (List.mem_filter.mp hc).1⟩
    tlbWithinCapacity := h.tlbWithinCapacity
    tlbPagesDistinct := h.tlbPagesDistinct
    queue := { h.queue with }
    residentFilled := (State.residentFilled_iff_dropLast rfl).mpr fun e he o ho =>
      (Memory.read_erase_out _ (outside_frame (hother e he) ho)).trans (hholds e he o ho)
    tlbPointsSoundly := (State.tlbPointsSoundly_iff (by simp)).mpr (h.backs (by simp [hp]))
    phaseOk := trivial
    causeAgreesWithHalt := by simp [State.CauseAgreesWithHalt, causeOf_ne_none] }

theorem withMem (h : s.Sound) (hp : s.phase = .fill) (hf : s.curFrame.toNat < s.params.numFrames) :
    ((s.useAnswer.withMem (s.mem.writeBlock (frameBase s.curFrame) (storePage s.store s.curPage))).goto .tlbi).Sound := by
  obtain ⟨hsplit, hmiss, hhit, _, hjust⟩ := (State.phaseOk_fill hp).mp h.phaseOk
  obtain ⟨hrq, hother⟩ := h.rq_of_justAllocated hjust
  have hholds := h.holds_dropLast (by rw [hp]; rfl)
  obtain ⟨hwf, hbound⟩ := h.memoryOk
  exact {
    paramsWf := h.paramsWf
    memoryOk := by
      refine ⟨Memory.writeBlock_wf hwf _ _, fun c hc => ?_⟩
      rcases Memory.mem_writeBlock hc with hc | ⟨_, hc⟩
      · exact hbound c hc
      · exact lt_memBytes_of_frame hf (by simpa using hc)
    tlbWithinCapacity := h.tlbWithinCapacity
    tlbPagesDistinct := h.tlbPagesDistinct
    queue := { h.queue with }
    residentFilled := by
      rw [State.residentFilled_iff rfl]
      intro e he o ho
      have he : e ∈ s.rq.dropLast ++ [Entry.mk s.curPage s.curFrame] := hrq ▸ he
      rcases List.mem_append.mp he with he | he
      · refine (Memory.read_writeBlock_out _ _ _ ?_).trans (hholds e he o ho)
        simpa using outside_frame (hother e he) ho
      · cases List.mem_singleton.mp he
        refine (Memory.read_writeBlock_in _ _ _ (by simpa using ho)).trans ?_
        simp [storePage_getElem]
    tlbPointsSoundly := (State.tlbPointsSoundly_iff (by simp)).mpr (h.backs (by simp [hp]))
    phaseOk := (State.phaseOk_tlbi rfl).mpr ⟨hsplit, hmiss, hhit, (h.queue.agrees _ _).mpr (by rw [hrq]; simp)⟩
    causeAgreesWithHalt := (State.causeAgreesWithHalt_iff (by simp)).mpr (h.noCause (by simp [hp])) }

/-! ## TLB.INSERT and RESET -/

theorem insertTlb (h : s.Sound) (hp : s.phase = .tlbi) : (s.insertTlb.goto .comb).Sound := by
  obtain ⟨hsplit, hmiss, hhit, hmap⟩ := (State.phaseOk_tlbi hp).mp h.phaseOk
  have hbacks := h.backs (by simp [hp])
  obtain ⟨_, _, hsize, _⟩ := (Params.wf_iff _).mp h.paramsWf
  exact {
    paramsWf := h.paramsWf
    memoryOk := h.memoryOk
    tlbWithinCapacity := tlbPush_length_le h.tlbWithinCapacity hsize _ _
    tlbPagesDistinct := tlbPush_pages_nodup _ h.tlbPagesDistinct hmiss
    queue := { h.queue with }
    residentFilled := (State.residentFilled_iff rfl).mpr (h.holds (by rw [hp]; rfl))
    tlbPointsSoundly := (State.tlbPointsSoundly_iff (by simp)).mpr fun e he => by
      rcases mem_tlbPush he with he | rfl
      · exact hbacks e he
      · exact h.queue.backs hmap
    phaseOk := (State.phaseOk_comb rfl).mpr ⟨hsplit, pushed_mem_tlbPush _ _ _ _, by simp [hhit]⟩
    causeAgreesWithHalt := (State.causeAgreesWithHalt_iff (by simp)).mpr (h.noCause (by simp [hp])) }

/-- RESET leaves an engine in which every rule speaks of nothing (R221). -/
theorem afterReset (h : s.Sound) : s.afterReset.Sound where
  paramsWf := h.paramsWf
  memoryOk := ⟨reset_memory_wf, fun c hc => nomatch hc⟩
  tlbWithinCapacity := Nat.zero_le _
  tlbPagesDistinct := List.nodup_nil
  queue :=
    { counted := ⟨rfl, Nat.zero_le _⟩
      agrees := fun p f => by simp
      distinct := ⟨List.nodup_nil, List.nodup_nil⟩
      roundRobin := ⟨fun _ i e he => by simp at he, fun _ front he => by simp at he⟩ }
  residentFilled := (State.residentFilled_iff rfl).mpr fun e he => nomatch he
  tlbPointsSoundly := fun e he => nomatch he
  phaseOk := trivial
  causeAgreesWithHalt := (State.causeAgreesWithHalt_iff (by simp)).mpr rfl

/-! ## A whole transaction, as the walk through its phases -/

theorem translateFinish (h : (s.goto .comb).Sound) (e : translateFinish s = .next t) : t.Sound := by
  rcases translateFinish_cases s with ⟨b, _, hb, e'⟩ | ⟨r, _, e'⟩ <;> cases e'.symm.trans e
  have hread : (s.combinePa.goto .read).Sound := h.combinePa rfl
  have hresp : ((s.combinePa.withValue b).goto .resp).Sound := hread.withValue rfl hb
  exact hresp.respond rfl

theorem translateFill {before : State} (hb : before.Sound) (h : (s.goto .fill).Sound)
    (e : translateFill before s = .next t) : t.Sound := by
  rcases translateFill_cases before s with ⟨_, e'⟩ | ⟨_, _, k, _, _, e'⟩ | ⟨_, e'⟩ | ⟨_, _, _, hf, e'⟩ <;> rw [e'] at e
  · cases e
    exact hb
  · cases e
    exact h.takeBackingStoreFault rfl k
  · cases e
  · have hfilled : ((s.useAnswer.withMem
        (s.mem.writeBlock (frameBase s.curFrame) (storePage s.store s.curPage))).goto .tlbi).Sound := h.withMem rfl hf
    generalize s.mem.writeBlock (frameBase s.curFrame) (storePage s.store s.curPage) = m at hfilled e
    have hserved : ((s.useAnswer.withMem m).insertTlb.goto .comb).Sound := hfilled.insertTlb rfl
    exact hserved.translateFinish e

theorem translateFault {before : State} (hb : before.Sound) (h : (s.goto .alloc).Sound)
    (e : translateFault before s = .next t) : t.Sound := by
  rcases translateFault_cases before s with ⟨r, _, e'⟩ | ⟨a, ha, hm, e'⟩ | ⟨a, ha, hm, e'⟩ <;> rw [e'] at e
  · cases e
  all_goals
    have halloc : ((s.withAllocation a).goto
        (if (s.withAllocation a).mustInvalidate then .inval else .fill)).Sound := h.withAllocation rfl ha
    rw [hm] at halloc
  · have hinval : ((s.withAllocation a).invalidateTlb.goto .fill).Sound := halloc.invalidateTlb rfl
    exact hb.translateFill hinval e
  · exact hb.translateFill halloc e

theorem execTranslate (h : s.Sound) (hp : s.phase = .idle) (e : execTranslate va s = .next t) : t.Sound := by
  have hsplit : ((s.accept va).splitVa.goto .tlbl).Sound := (h.accept hp va).splitVa rfl
  rcases execTranslate_cases va s hp with ⟨f, hf, e'⟩ | ⟨f, hmiss, hf, e'⟩ | ⟨hmiss, hf, e'⟩ <;> rw [e'] at e
  · have hserved : (((s.accept va).splitVa.onTlbHit f).goto .comb).Sound := hsplit.onTlbHit rfl hf
    exact hserved.translateFinish e
  · have hptl : ((s.accept va).splitVa.flagTlbMiss.goto .ptl).Sound := hsplit.flagTlbMiss rfl hmiss
    have htlbi : (((s.accept va).splitVa.flagTlbMiss.onPtHit f).goto .tlbi).Sound := hptl.onPtHit rfl hf
    have hserved : (((s.accept va).splitVa.flagTlbMiss.onPtHit f).insertTlb.goto .comb).Sound := htlbi.insertTlb rfl
    exact hserved.translateFinish e
  · have hptl : ((s.accept va).splitVa.flagTlbMiss.goto .ptl).Sound := hsplit.flagTlbMiss rfl hmiss
    have halloc : (((s.accept va).splitVa.flagTlbMiss.flagPageFault true).goto .alloc).Sound :=
      hptl.flagPageFault rfl hf
    exact h.translateFault halloc e

end State.Sound

/-! ## One step -/

/-- The operation that a sound state selects keeps the rules: the pin, the request port or the phase code selects it, and each
micro-operation runs in its own phase only. -/
theorem State.Sound.exec {i : Instr} (h : s.Sound) (hf : fetch s = some i) (e : exec i s = .next t) : t.Sound := by
  cases hr : s.resetPin with
  | true =>
    cases hf.symm.trans (fetch_inReset hr)
    cases e
    exact h.afterReset
  | false =>
    obtain ⟨split, tlbl, ptl, alloc, inval, fill, tlbi, comb, read, resp, halt⟩ := fetch_phase hr
    cases hp : s.phase with
    | idle =>
      rw [fetch_idle hr hp] at hf
      obtain ⟨va, _, rfl⟩ := Option.map_eq_some_iff.mp hf
      exact h.execTranslate hp e
    | split =>
      cases hf.symm.trans (split hp)
      cases e
      exact h.splitVa hp
    | tlbl =>
      cases hf.symm.trans (tlbl hp)
      rcases execTlbLookup_cases s with ⟨f, hit, e'⟩ | ⟨miss, e'⟩ <;> cases e'.symm.trans e
      · exact h.onTlbHit hp hit
      · exact h.flagTlbMiss hp miss
    | ptl =>
      cases hf.symm.trans (ptl hp)
      rcases execPtLookup_cases s with ⟨f, hit, e'⟩ | ⟨miss, e'⟩ <;> cases e'.symm.trans e
      · exact h.onPtHit hp hit
      · exact h.flagPageFault hp miss
    | alloc =>
      cases hf.symm.trans (alloc hp)
      rcases execPtAlloc_cases s with ⟨r, _, e'⟩ | ⟨u, hu, e'⟩ <;> cases e'.symm.trans e
      obtain ⟨a, ha, rfl⟩ := State.allocate_ok hu
      exact h.withAllocation hp ha
    | inval =>
      cases hf.symm.trans (inval hp)
      cases e
      exact h.invalidateTlb hp
    | fill =>
      cases hf.symm.trans (fill hp)
      rcases execBsFill_cases s with ⟨_, e'⟩ | ⟨_, _, k, _, _, e'⟩ | ⟨_, e'⟩ | ⟨_, _, _, hframe, e'⟩ <;>
        cases e'.symm.trans e
      · rw [State.goto_self s .fill hp]
        exact h
      · exact h.takeBackingStoreFault hp k
      · exact h.withMem hp hframe
    | tlbi =>
      cases hf.symm.trans (tlbi hp)
      cases e
      exact h.insertTlb hp
    | comb =>
      cases hf.symm.trans (comb hp)
      cases e
      exact h.combinePa hp
    | read =>
      cases hf.symm.trans (read hp)
      rcases execMemRead_cases s with ⟨b, _, hb, e'⟩ | ⟨r, _, e'⟩ <;> cases e'.symm.trans e
      exact h.withValue hp hb
    | resp =>
      cases hf.symm.trans (resp hp)
      cases e
      exact h.respond hp
    | halt => cases hf.symm.trans (halt hp)

/-- Every step keeps the rules of the invariant but R14. -/
theorem State.Sound.step (h : s.Sound) (e : step s = .next t) : t.Sound := by
  rcases step_cases s with ⟨_, e'⟩ | ⟨_, ha, e'⟩ | ⟨_, _, _, e'⟩ | ⟨i, _, _, hf, e'⟩ <;> rw [e'] at e
  · cases e
  · obtain ⟨_, _, hp, _⟩ := (acceptsOnly_iff s).mp ha
    cases e
    exact h.accept hp s.headRequest
  · cases e
    exact h
  · exact h.exec hf e

/-- RESPOND ends in `IDLE` or stays in `RESP` (R164). -/
theorem State.respond_phase (s : State) : s.respond.phase = .idle ∨ s.respond.phase = .resp := by
  cases hr : s.respReady with
  | true => exact .inl (by rw [State.respond_ready s hr, State.deliver_phase])
  | false => exact .inr (by rw [State.respond_notReady s hr, State.goto_phase])

/-- Every step keeps the atomicity of R14: a step on a request is a whole transaction. -/
theorem step_keeps_transactionsWhole (h : s.TransactionsWhole) (e : step s = .next t) : t.TransactionsWhole := by
  intro ht
  have hl : s.level = .transaction := (step_keepsInputs e).level ▸ ht
  rcases step_cases s with ⟨_, e'⟩ | ⟨_, ha, _⟩ | ⟨_, _, _, e'⟩ | ⟨i, hw, _, hf, e'⟩
  · cases e'.symm.trans e
  · simp [acceptsOnly_of_transaction hl] at ha
  · cases e'.symm.trans e
    exact h hl
  · rw [e'] at e
    cases hr : s.resetPin with
    | true =>
      cases hf.symm.trans (fetch_inReset hr)
      cases e
      exact .inl rfl
    | false =>
      obtain ⟨_, _, _, _, _, _, _, _, _, resp, halt⟩ := fetch_phase hr
      rcases h hl with hp | hp | hp
      · rw [fetch_idle hr hp] at hf
        obtain ⟨va, _, rfl⟩ := Option.map_eq_some_iff.mp hf
        rcases execTranslate_next hp e with ⟨rfl, _, _⟩ | ⟨u, b, _, rfl⟩ | ⟨u, k, _, rfl⟩
        · exact .inl hp
        · exact (State.respond_phase _).imp_right .inl
        · exact .inr (.inr rfl)
      · cases hf.symm.trans (resp hp)
        cases e
        exact s.respond_phase.imp_right .inl
      · cases hf.symm.trans (halt hp)

/-- Settles O48: every phase keeps the rules (`State.Sound.step`), and transactions stay whole. -/
theorem everyStepKeepsTheInvariant : Obligations.EveryStepKeepsTheInvariant := by
  intro s t h e
  obtain ⟨hsound, hwhole⟩ := (State.inv_iff_sound s).mp h
  exact (State.inv_iff_sound t).mpr ⟨hsound.step e, step_keeps_transactionsWhole hwhole e⟩

end Sys2Proof.Machine
end

section
/-! Which micro-operation writes which structure (R21 to R27, R41), the shape of the TLB and of the memory that every step keeps
(R27, R50), the state right after reset (R48), and the halted state (R45). -/

namespace Sys2Proof.Machine

variable {s t u b : State} {va : Vaddr}

/-! ## Reset and halt -/

/-- Settles O12: every element has its value of R48 by definition. -/
theorem resetStateIsEmpty : Obligations.ResetStateIsEmpty :=
  ⟨rfl, ptGet_empty, rfl, rfl, rfl, rfl, rfl, Memory.read_nil, rfl⟩

theorem State.halted_iff (s : State) : s.halted = true ↔ s.phase = .halt := by simp [State.halted]

/-- In `HALT` no operation is selected, so a step without reset changes nothing (R201). -/
theorem step_halted (hw : s.params.wf = true) (hp : s.phase = .halt) (hr : s.resetPin = false) : step s = .next s := by
  obtain ⟨_, _, _, _, _, _, _, _, _, _, halt⟩ := fetch_phase hr
  have ha : s.acceptsOnly = false := acceptsOnly_of_not_idle (by simp [hp])
  simp [step, hw, ha, halt hp]

/-- Settles O10: a step in `HALT` changes nothing (`step_halted`), and so it repeats. -/
theorem haltIsLeftByResetOnly : Obligations.HaltIsLeftByResetOnly := fun s =>
  ⟨s.halted_iff, fun hw hh hr n => run_eq_self_of_step (step_halted hw (s.halted_iff.mp hh) hr) n⟩

/-! ## The writers of the structures -/

/-- Settles O54: per micro-operation, each field that it does not write reads as before by the laws of its updates. -/
theorem eachStructureHasItsWriters : Obligations.EachStructureHasItsWriters := by
  intro i s t h hreset htranslate
  cases i with
  | translate va => exact absurd rfl (htranslate va)
  | reset => exact absurd rfl hreset
  | vaSplit | tlbInval | tlbInsert | paCombine =>
    cases h
    simp
  | tlbLookup =>
    rcases execTlbLookup_cases s with ⟨f, _, e⟩ | ⟨_, e⟩ <;> cases e.symm.trans h <;> simp
  | ptLookup =>
    rcases execPtLookup_cases s with ⟨f, _, e⟩ | ⟨_, e⟩ <;> cases e.symm.trans h <;> simp
  | ptAlloc =>
    rcases execPtAlloc_cases s with ⟨r, _, e⟩ | ⟨u, hu, e⟩ <;> cases e.symm.trans h
    obtain ⟨a, _, rfl⟩ := State.allocate_ok hu
    simp
  | bsFill =>
    rcases execBsFill_cases s with ⟨_, e⟩ | ⟨_, _, k, _, _, e⟩ | ⟨_, e⟩ | ⟨_, _, _, _, e⟩ <;>
      cases e.symm.trans h <;> simp
  | memRead =>
    rcases execMemRead_cases s with ⟨b, _, _, e⟩ | ⟨r, _, e⟩ <;> cases e.symm.trans h
    simp
  | respond =>
    cases h
    simp

/-! ## The shape of the TLB and of the memory -/

/-- From `s` to `t` the parameters stay, and so do the capacity of the TLB (R50) and the canonical form of the memory (R27). -/
structure State.KeepsShape (s t : State) : Prop where
  params : t.params = s.params
  tlb : s.params.wf = true → s.TlbWithinCapacity → t.TlbWithinCapacity
  mem : Memory.wf s.mem → Memory.wf t.mem

namespace State.KeepsShape

theorem of_same (params : t.params = s.params) (tlb : t.tlb = s.tlb) (mem : t.mem = s.mem) : s.KeepsShape t where
  params := params
  tlb _ hcap := by rwa [State.TlbWithinCapacity, params, tlb]
  mem hwf := mem ▸ hwf

theorem trans (hst : s.KeepsShape t) (htu : t.KeepsShape u) : s.KeepsShape u where
  params := htu.params.trans hst.params
  tlb hw hcap := htu.tlb (hst.params ▸ hw) (hst.tlb hw hcap)
  mem hwf := htu.mem (hst.mem hwf)

theorem insertTlb (s : State) : s.KeepsShape s.insertTlb where
  params := rfl
  tlb hw hcap := by
    obtain ⟨_, _, hsize, _⟩ := (Params.wf_iff _).mp hw
    exact tlbPush_length_le hcap hsize _ _
  mem hwf := hwf

theorem invalidateTlb (s : State) : s.KeepsShape s.invalidateTlb where
  params := rfl
  tlb _ hcap := (List.length_filter_le _ _).trans hcap
  mem hwf := hwf

theorem writeBlock (s : State) (base : Nat) (d : List Byte) :
    s.KeepsShape (s.useAnswer.withMem (s.mem.writeBlock base d)) where
  params := rfl
  tlb _ hcap := hcap
  mem hwf := Memory.writeBlock_wf hwf base d

theorem takeBackingStoreFault (s : State) (k : FailKind) (p : Page) :
    s.KeepsShape (s.useAnswer.takeBackingStoreFault k p) where
  params := rfl
  tlb _ hcap := hcap
  mem hwf := Memory.erase_wf hwf _ _

theorem afterReset (s : State) : s.KeepsShape s.afterReset where
  params := rfl
  tlb _ _ := Nat.zero_le _
  mem _ := reset_memory_wf

theorem translateFinish (h : b.KeepsShape s) (e : translateFinish s = .next t) : b.KeepsShape t := by
  rcases translateFinish_cases s with ⟨v, _, _, e'⟩ | ⟨r, _, e'⟩ <;> cases e'.symm.trans e
  exact h.trans (.of_same (by simp) (by simp) (by simp))

theorem translateFill (h : b.KeepsShape s) (e : translateFill b s = .next t) : b.KeepsShape t := by
  rcases translateFill_cases b s with ⟨_, e'⟩ | ⟨_, _, k, _, _, e'⟩ | ⟨_, e'⟩ | ⟨_, _, _, _, e'⟩ <;> rw [e'] at e
  · cases e
    exact .of_same rfl rfl rfl
  · cases e
    exact h.trans (.takeBackingStoreFault s k s.curPage)
  · cases e
  · exact ((h.trans (.writeBlock s _ _)).trans (.insertTlb _)).translateFinish e

theorem translateFault (h : b.KeepsShape s) (e : translateFault b s = .next t) : b.KeepsShape t := by
  have alloc (a : Allocation) : b.KeepsShape (s.withAllocation a) := h.trans (.of_same rfl rfl rfl)
  rcases translateFault_cases b s with ⟨r, _, e'⟩ | ⟨a, _, _, e'⟩ | ⟨a, _, _, e'⟩ <;> rw [e'] at e
  · cases e
  · exact ((alloc a).trans (.invalidateTlb _)).translateFill e
  · exact (alloc a).translateFill e

theorem execTranslate (e : execTranslate va s = .next t) : s.KeepsShape t := by
  by_cases hp : s.phase = .idle
  · rcases execTranslate_cases va s hp with ⟨f, _, e'⟩ | ⟨f, _, _, e'⟩ | ⟨_, _, e'⟩ <;> rw [e'] at e
    · have hit : s.KeepsShape ((s.accept va).splitVa.onTlbHit f) := .of_same rfl rfl rfl
      exact hit.translateFinish e
    · have mapped : s.KeepsShape ((s.accept va).splitVa.flagTlbMiss.onPtHit f) := .of_same rfl rfl rfl
      exact (mapped.trans (.insertTlb _)).translateFinish e
    · have absent : s.KeepsShape ((s.accept va).splitVa.flagTlbMiss.flagPageFault true) := .of_same rfl rfl rfl
      exact absent.translateFault e
  · rw [Machine.execTranslate, if_neg hp] at e
    cases e
    exact .of_same rfl rfl rfl

theorem execBsFill (e : execBsFill s = .next t) : s.KeepsShape t := by
  rcases execBsFill_cases s with ⟨_, e'⟩ | ⟨_, _, k, _, _, e'⟩ | ⟨_, e'⟩ | ⟨_, _, _, _, e'⟩ <;> cases e'.symm.trans e
  · exact .of_same rfl rfl rfl
  · exact .takeBackingStoreFault s k s.curPage
  · exact (writeBlock s _ _).trans (.of_same rfl rfl rfl)

/-- Only the writers of the TLB and of the memory have anything to show. -/
theorem exec {i : Instr} (e : exec i s = .next t) : s.KeepsShape t := by
  cases i with
  | translate va => exact execTranslate e
  | bsFill => exact execBsFill e
  | tlbInsert =>
    cases e
    exact (insertTlb s).trans (.of_same rfl rfl rfl)
  | tlbInval =>
    cases e
    exact (invalidateTlb s).trans (.of_same rfl rfl rfl)
  | reset =>
    cases e
    exact afterReset s
  | vaSplit | tlbLookup | ptLookup | ptAlloc | paCombine | memRead | respond =>
    obtain ⟨tlb, _, mem, _⟩ := eachStructureHasItsWriters _ s t e (by simp) (by simp)
    exact .of_same (exec_keepsInputs e).params (tlb (by simp) (by simp)) (mem (by simp)).1

theorem step (e : step s = .next t) : s.KeepsShape t := by
  rcases step_cases s with ⟨_, e'⟩ | ⟨_, _, e'⟩ | ⟨_, _, _, e'⟩ | ⟨i, _, _, _, e'⟩ <;> rw [e'] at e
  · cases e
  · cases e
    exact .of_same rfl rfl rfl
  · cases e
    exact .of_same rfl rfl rfl
  · exact exec e

end State.KeepsShape

/-- A step with illegal parameters is refused (U13). -/
theorem params_wf_of_step (h : step s = .next t) : s.params.wf = true := by
  by_contra hw
  simp [step, hw] at h

/-- Settles O51: from the shape that every step keeps (`State.KeepsShape.step`). -/
theorem tlbStaysWithinItsCapacity : Obligations.TlbStaysWithinItsCapacity :=
  ⟨rfl, fun _ _ hcap h => (State.KeepsShape.step h).tlb (params_wf_of_step h) hcap⟩

/-- Settles O52: from the shape that every step keeps (`State.KeepsShape.step`). -/
theorem everyStepKeepsMemoryCanonical : Obligations.EveryStepKeepsMemoryCanonical :=
  fun _ _ hwf h => (State.KeepsShape.step h).mem hwf

end Sys2Proof.Machine
end

section
/-! A sound state makes its next step: no resident page is allocated, the replacement queue has a front when it is needed, every
frame that is filled exists, and every byte that is read has a value (R81, R133, R139 (d)). With that, what holds in the states
that a run can reach. -/

namespace Sys2Proof.Machine

variable {s : State} {va : Vaddr}

/-- Every frame handed out is in the queue: the queue has as many pairs, and their frames are distinct and handed out. -/
theorem State.QueueOk.exists_frame (h : s.QueueOk) {f : Frame} (hf : f.toNat < s.allocCount) :
    ∃ e ∈ s.rq, e.frame = f := by
  have hnodup : (s.rq.map (·.frame.toNat)).Nodup := by
    simpa [Function.comp_def] using h.distinct.1.map BitVec.toNat_injective
  have hbelow : s.rq.map (·.frame.toNat) ⊆ List.range s.allocCount := by
    simpa [List.subset_def] using fun e he => h.frame_lt_allocCount he
  have hperm := (hnodup.subperm hbelow).perm_of_length_le (by simp [h.counted.1])
  obtain ⟨e, he, hef⟩ := List.mem_map.mp (hperm.mem_iff.mpr (List.mem_range.mpr hf))
  exact ⟨e, he, BitVec.eq_of_toNat_eq hef⟩

namespace State.Sound

/-! ## The operations that can stop, each in its phase -/

/-- A frame handed out exists. -/
theorem lt_numFrames (h : s.Sound) {f : Frame} (hf : f.toNat < s.allocCount) : f.toNat < s.params.numFrames :=
  hf.trans_le h.queue.counted.2

/-- PT.ALLOC is not refused: its page is absent, and with every frame allocated the queue is not empty (R133, R139 (d)). -/
theorem exists_ptAllocate (h : (s.goto .alloc).Sound) :
    ∃ a, ptAllocate s.params s.pt s.rq s.allocCount s.curPage = .ok a := by
  obtain ⟨_, _, _, _, habs⟩ := (State.phaseOk_alloc rfl).mp h.phaseOk
  refine (exists_ptAllocate_ok_iff _ _ _ habs).mpr (or_iff_not_imp_left.mpr fun hfull hempty => ?_)
  obtain ⟨hframes, _⟩ := (Params.wf_iff s.params).mp h.paramsWf
  have hlen : s.rq.length = s.allocCount := h.queue.counted.1
  rw [hempty, List.length_nil] at hlen
  omega

/-- BS.FILL has a frame to fill: PT.ALLOC has just answered it (R62). -/
theorem curFrame_lt_numFrames (h : (s.goto .fill).Sound) : s.curFrame.toNat < s.params.numFrames := by
  obtain ⟨_, _, _, _, hjust⟩ := (State.phaseOk_fill rfl).mp h.phaseOk
  exact h.lt_numFrames (h.queue.frame_lt_allocCount (List.mem_of_getLast? hjust))

/-- MEM.READ finds a byte: the frame of the TLB entry that serves the transaction has been handed out, so some page, perhaps by
now another one, is in it (R81). -/
theorem exists_readByte (h : (s.goto .read).Sound) : ∃ b, s.readByte = .ok (s.withValue b) := by
  obtain ⟨_, hserved, haddr⟩ := (State.phaseOk_read rfl).mp h.phaseOk
  obtain ⟨hlt, _⟩ := h.tlbPointsSoundly _ hserved.1
  obtain ⟨e, he, hef⟩ := h.queue.exists_frame hlt
  have haddr : s.resPaddr = combine s.curFrame s.curOffset := haddr
  have hef : e.frame = s.curFrame := hef
  have hbound : s.resPaddr.toNat < s.params.memBytes := haddr ▸ combine_lt_memBytes (h.lt_numFrames hlt) _
  have hbyte : s.mem.read s.resPaddr.toNat = some (storeRead s.store (storeBase e.page + s.curOffset.toNat)) := by
    rw [haddr, combine_toNat, ← hef]
    exact h.holds rfl e he _ s.curOffset.isLt
  rcases s.readByte_cases with ⟨b, _, _, e⟩ | ⟨r, hno | hno, _⟩
  · exact ⟨b, e⟩
  · omega
  · simp [hbyte] at hno

/-! ## A whole transaction, as the walk through its phases -/

theorem exists_translateFinish (h : (s.goto .comb).Sound) : ∃ t, Machine.translateFinish s = .next t := by
  have hread : (s.combinePa.goto .read).Sound := h.combinePa rfl
  obtain ⟨b, hb⟩ := hread.exists_readByte
  simp [Machine.translateFinish, hb]

theorem exists_translateFill (before : State) (h : (s.goto .fill).Sound) :
    ∃ t, Machine.translateFill before s = .next t := by
  have hframe := h.curFrame_lt_numFrames
  rcases translateFill_cases before s with ⟨_, e⟩ | ⟨_, _, _, _, _, e⟩ | ⟨hno, _⟩ | ⟨_, _, _, _, e⟩
  · exact ⟨_, e⟩
  · exact ⟨_, e⟩
  · omega
  · have hfilled : ((s.useAnswer.withMem
        (s.mem.writeBlock (frameBase s.curFrame) (storePage s.store s.curPage))).goto .tlbi).Sound := h.withMem rfl hframe
    rw [e]
    generalize s.mem.writeBlock (frameBase s.curFrame) (storePage s.store s.curPage) = m at hfilled
    have hserved : ((s.useAnswer.withMem m).insertTlb.goto .comb).Sound := hfilled.insertTlb rfl
    exact hserved.exists_translateFinish

theorem exists_translateFault (before : State) (h : (s.goto .alloc).Sound) :
    ∃ t, Machine.translateFault before s = .next t := by
  rcases translateFault_cases before s with ⟨r, hr, _⟩ | ⟨a, ha, hm, e⟩ | ⟨a, ha, hm, e⟩
  · obtain ⟨a, ha⟩ := h.exists_ptAllocate
    simp [State.allocate, ha] at hr
  all_goals
    have halloc : ((s.withAllocation a).goto
        (if (s.withAllocation a).mustInvalidate then .inval else .fill)).Sound := h.withAllocation rfl ha
    rw [hm] at halloc
    rw [e]
  · have hinval : ((s.withAllocation a).invalidateTlb.goto .fill).Sound := halloc.invalidateTlb rfl
    exact hinval.exists_translateFill before
  · exact exists_translateFill before halloc

theorem exists_execTranslate (h : s.Sound) (hp : s.phase = .idle) : ∃ t, Machine.execTranslate va s = .next t := by
  have hsplit : ((s.accept va).splitVa.goto .tlbl).Sound := (h.accept hp va).splitVa rfl
  rcases execTranslate_cases va s hp with ⟨f, hf, e⟩ | ⟨f, hmiss, hf, e⟩ | ⟨hmiss, hf, e⟩ <;> rw [e]
  · have hserved : (((s.accept va).splitVa.onTlbHit f).goto .comb).Sound := hsplit.onTlbHit rfl hf
    exact hserved.exists_translateFinish
  all_goals have hptl : ((s.accept va).splitVa.flagTlbMiss.goto .ptl).Sound := hsplit.flagTlbMiss rfl hmiss
  · have htlbi : (((s.accept va).splitVa.flagTlbMiss.onPtHit f).goto .tlbi).Sound := hptl.onPtHit rfl hf
    have hserved : (((s.accept va).splitVa.flagTlbMiss.onPtHit f).insertTlb.goto .comb).Sound := htlbi.insertTlb rfl
    exact hserved.exists_translateFinish
  · have halloc : (((s.accept va).splitVa.flagTlbMiss.flagPageFault true).goto .alloc).Sound :=
      hptl.flagPageFault rfl hf
    exact halloc.exists_translateFault s

/-! ## One step -/

/-- Of the operations that a sound state selects, PT.ALLOC, BS.FILL, MEM.READ and TRANSLATE could stop, and do not. -/
theorem exists_exec {i : Instr} (h : s.Sound) (hf : fetch s = some i) : ∃ t, Machine.exec i s = .next t := by
  have inPhase {p : Phase} (hp : s.phase = p) : (s.goto p).Sound := (s.goto_self p hp).symm ▸ h
  cases hr : s.resetPin with
  | true =>
    cases hf.symm.trans (fetch_inReset hr)
    exact ⟨_, rfl⟩
  | false =>
    obtain ⟨split, tlbl, ptl, alloc, inval, fill, tlbi, comb, read, resp, halt⟩ := fetch_phase hr
    cases hp : s.phase with
    | idle =>
      rw [fetch_idle hr hp] at hf
      obtain ⟨va, _, rfl⟩ := Option.map_eq_some_iff.mp hf
      exact h.exists_execTranslate hp
    | tlbl =>
      cases hf.symm.trans (tlbl hp)
      rcases execTlbLookup_cases s with ⟨f, _, e⟩ | ⟨_, e⟩ <;> exact ⟨_, e⟩
    | ptl =>
      cases hf.symm.trans (ptl hp)
      rcases execPtLookup_cases s with ⟨f, _, e⟩ | ⟨_, e⟩ <;> exact ⟨_, e⟩
    | alloc =>
      cases hf.symm.trans (alloc hp)
      obtain ⟨a, ha⟩ := (inPhase hp).exists_ptAllocate
      simp [Machine.exec, execPtAlloc, State.allocate, ha]
    | fill =>
      cases hf.symm.trans (fill hp)
      have hframe := (inPhase hp).curFrame_lt_numFrames
      rcases execBsFill_cases s with ⟨_, e⟩ | ⟨_, _, _, _, _, e⟩ | ⟨hno, _⟩ | ⟨_, _, _, _, e⟩
      · exact ⟨_, e⟩
      · exact ⟨_, e⟩
      · omega
      · exact ⟨_, e⟩
    | read =>
      cases hf.symm.trans (read hp)
      obtain ⟨b, hb⟩ := (inPhase hp).exists_readByte
      simp [Machine.exec, execMemRead, hb]
    | split =>
      cases hf.symm.trans (split hp)
      exact ⟨_, rfl⟩
    | inval =>
      cases hf.symm.trans (inval hp)
      exact ⟨_, rfl⟩
    | tlbi =>
      cases hf.symm.trans (tlbi hp)
      exact ⟨_, rfl⟩
    | comb =>
      cases hf.symm.trans (comb hp)
      exact ⟨_, rfl⟩
    | resp =>
      cases hf.symm.trans (resp hp)
      exact ⟨_, rfl⟩
    | halt => cases hf.symm.trans (halt hp)

/-- A sound state makes its next step. -/
theorem exists_step (h : s.Sound) : ∃ t, Machine.step s = .next t := by
  rcases step_cases s with ⟨hw, _⟩ | ⟨_, _, e⟩ | ⟨_, _, _, e⟩ | ⟨i, _, _, hf, e⟩
  · simp [h.paramsWf] at hw
  · exact ⟨_, e⟩
  · exact ⟨_, e⟩
  · exact e ▸ h.exists_exec hf

/-! ## The reachable states -/

/-- At power-up every rule speaks of nothing (R221 (d)). -/
theorem powerUp {c : Params} (legal : c.wf = true) (store : Memory) (level : Level) :
    (State.powerUp c store level).Sound where
  paramsWf := legal
  memoryOk := ⟨reset_memory_wf, fun c hc => nomatch hc⟩
  tlbWithinCapacity := Nat.zero_le _
  tlbPagesDistinct := List.nodup_nil
  queue :=
    { counted := ⟨rfl, Nat.zero_le _⟩
      agrees := fun p f => by simp [State.powerUp, State.reset]
      distinct := ⟨List.nodup_nil, List.nodup_nil⟩
      roundRobin := ⟨fun _ i e he => (nomatch he), fun _ front he => nomatch he⟩ }
  residentFilled := fun e he => nomatch he
  tlbPointsSoundly := fun e he => nomatch he
  phaseOk := trivial
  causeAgreesWithHalt := (State.causeAgreesWithHalt_iff (by simp [State.powerUp, State.reset])).mpr rfl

/-- No rule speaks of the inputs, so the environment may set them as it likes (R204). -/
theorem withInputs (h : s.Sound) (resetPin : Bool) (requests : List Vaddr) (respReady : Bool)
    (answers : List ReaderAnswer) : (s.withInputs resetPin requests respReady answers).Sound :=
  { h with queue := { h.queue with } }

end State.Sound

theorem Reachable.sound (h : Reachable s) : s.Sound := by
  induction h with
  | powerUp c store level legal => exact .powerUp legal store level
  | inputs s resetPin requests respReady answers _ ih => exact ih.withInputs resetPin requests respReady answers
  | step s t _ e ih => exact ih.step e

/-- Settles O50: every reachable state is sound (`Reachable.sound`), and a sound state makes its next step. -/
theorem reachableStatesAreSound : Obligations.ReachableStatesAreSound := by
  intro s hs
  have h := hs.sound
  exact ⟨h.tlbWithinCapacity, h.tlbPagesDistinct, h.queue.counted, h.queue.agrees, h.queue.distinct, h.queue.roundRobin,
    fun e he => (h.tlbPointsSoundly e he).1, h.exists_step⟩

end Sys2Proof.Machine
end

section
/-! What a step delivers (R76, R95), and where MEM.READ stops (R66, R81). -/

namespace Sys2Proof.Machine

variable {s t : State} {va : Vaddr}

/-! ## The invariant and the next step -/

/-- Settles O49: the invariant makes the state sound, and a sound state makes its next step (`State.Sound.exists_step`). -/
theorem noStepStopsUnderTheInvariant : Obligations.NoStepStopsUnderTheInvariant := by
  intro s h
  obtain ⟨hsound, _⟩ := (State.inv_iff_sound s).mp h
  exact hsound.exists_step

/-! ## MEM.READ where there is no byte -/

/-- Where `MemRead` faults, MEM.READ stops with the same fault. -/
theorem execMemRead_of_error {r : Fault} (h : memRead s.params s.mem s.resPaddr.toNat = .error r) :
    execMemRead s = .fault r := by
  simp [execMemRead, State.readByte, h]

/-- Settles O30: of the three answers of `MemRead`, the memory's size and content leave one in each clause. -/
theorem memReadStopsOnAByteWithoutValue : Obligations.MemReadStopsOnAByteWithoutValue := by
  intro s
  have hbytes : s.params.memBytes = s.params.numFrames * 256 := rfl
  rcases memRead_cases s.params s.mem s.resPaddr.toNat with ⟨b, hlt, hb, _⟩ | ⟨hlt, _, e⟩ | ⟨hle, e⟩
  · exact ⟨fun _ hnone => by simp [hb] at hnone, fun _ => by omega⟩
  · exact ⟨fun _ _ => execMemRead_of_error e, fun _ => by omega⟩
  · exact ⟨fun _ _ => by omega, fun _ => execMemRead_of_error e⟩

/-! ## Delivery -/

/-- From `s` to `t` nothing is delivered, or one result is: after those before, to a driver that is ready, from `IDLE` or `RESP`
into `IDLE`. -/
def State.DeliversInOrder (s t : State) : Prop :=
  t.delivered = s.delivered ∨
  ∃ r : Result, t.delivered = s.delivered ++ [r] ∧ t.phase = .idle ∧ (s.phase = .idle ∨ s.phase = .resp) ∧
    s.respReady = true

/-- No phase but `RESP` selects RESPOND (R100). -/
theorem phase_eq_resp_of_fetch (hf : fetch s = some .respond) : s.phase = .resp := by
  cases hr : s.resetPin with
  | true => cases hf.symm.trans (fetch_inReset hr)
  | false =>
    cases hp : s.phase with
    | resp => rfl
    | idle => simp [fetch_idle hr hp] at hf
    | split | tlbl | ptl | alloc | inval | fill | tlbi | comb | read | halt => simpa [hp, hf] using fetch_phase hr

/-- A TRANSLATE outside `IDLE` has no effect (R92). -/
theorem execTranslate_of_not_idle (hp : s.phase ≠ .idle) : execTranslate va s = .next s := if_neg hp

theorem respond_deliversInOrder (hp : s.phase = .resp) : s.DeliversInOrder s.respond := by
  cases hr : s.respReady with
  | true =>
    rw [State.respond_ready s hr]
    exact .inr ⟨s.result, s.deliver_delivered, s.deliver_phase, .inr hp, hr⟩
  | false =>
    rw [State.respond_notReady s hr]
    exact .inl rfl

/-- A transaction delivers only at its end, and only where it comes to a result (`execTranslate_next`). -/
theorem execTranslate_deliversInOrder (h : execTranslate va s = .next t) : s.DeliversInOrder t := by
  by_cases hp : s.phase = .idle
  · rcases execTranslate_next hp h with ⟨rfl, _, _⟩ | ⟨u, b, hu, rfl⟩ | ⟨u, k, hu, rfl⟩
    · exact .inl rfl
    · rcases hu.respond_ends b with ⟨r, hready, hdel, hidle⟩ | ⟨_, hdel, _⟩
      · exact .inr ⟨r, hdel, hidle, .inl hp, hready⟩
      · exact .inl hdel
    · exact .inl hu.delivered
  · cases (execTranslate_of_not_idle hp).symm.trans h
    exact .inl rfl

/-- Of the operations that can be selected, only TRANSLATE and RESPOND deliver (R164). -/
theorem exec_deliversInOrder {i : Instr} (hf : fetch s = some i) (h : exec i s = .next t) : s.DeliversInOrder t := by
  cases i with
  | translate va => exact execTranslate_deliversInOrder h
  | respond =>
    cases h
    exact respond_deliversInOrder (phase_eq_resp_of_fetch hf)
  | reset =>
    cases h
    exact .inl rfl
  | vaSplit | tlbLookup | ptLookup | ptAlloc | tlbInval | bsFill | tlbInsert | paCombine | memRead =>
    obtain ⟨_, _, _, hdel, _⟩ := eachStructureHasItsWriters _ s t h (by simp) (by simp)
    exact .inl (hdel (by simp))

/-- Settles O55: accepting a request and waiting deliver nothing, and an operation delivers in order
(`exec_deliversInOrder`). -/
theorem resultsAreDeliveredInOrder : Obligations.ResultsAreDeliveredInOrder := by
  intro s t h
  rcases step_cases s with ⟨_, e⟩ | ⟨_, _, e⟩ | ⟨_, _, _, e⟩ | ⟨i, _, _, hf, e⟩ <;> rw [e] at h
  · cases h
  · cases h
    exact .inl rfl
  · cases h
    exact .inl rfl
  · exact exec_deliversInOrder hf h

end Sys2Proof.Machine
end

section
/-! The encodings (R91, R94, R98 to R100, R220): the decoder and the encoder, the phase codes, and where the fields of the
interface words lie; and what a step does at the request port and at the response port (R92, R95). -/

namespace Sys2Proof.Machine

variable {s : State} {va : Vaddr}

/-! ## Decoding and encoding -/

/-- An operation's own word selects it at its place. -/
theorem decode_encode (i : Instr) : decode (encode i) = .ok i := by cases i <;> rfl

/-- What the decoder makes of a phase code (R100, R102). -/
theorem decodeSeq4_cases (c : BitVec 4) :
    (c.toNat = 0 ∧ decodeSeq4 c = .error .idlePhase) ∨
    (1 ≤ c.toNat ∧ c.toNat ≤ 10 ∧ ∃ i, decodeSeq4 c = .ok i ∧ encode i = .seq4 c) ∨
    (11 ≤ c.toNat ∧ c.toNat ≤ 14 ∧ decodeSeq4 c = .error (.unusedPhase c)) ∨
    (c.toNat = 15 ∧ decodeSeq4 c = .error .haltPhase) := by
  have isCode {k : BitVec 4} (h : c.toNat = k.toNat) : PortWord.seq4 k = .seq4 c :=
    congrArg PortWord.seq4 (BitVec.eq_of_toNat_eq h.symm)
  unfold decodeSeq4
  split
  case h_1 h => exact .inl ⟨h, rfl⟩
  case h_12 h => exact .inr (.inr (.inr ⟨h, rfl⟩))
  case h_13 =>
    obtain ⟨hlo, hhi⟩ : 11 ≤ c.toNat ∧ c.toNat ≤ 14 := by
      simp only [imp_false] at *
      omega
    exact .inr (.inr (.inl ⟨hlo, hhi, rfl⟩))
  all_goals exact .inr (.inl ⟨by omega, by omega, _, rfl, isCode ‹_›⟩)

/-- A word that selects an operation is the operation's own word. -/
theorem encode_of_decode {w : PortWord} {i : Instr} (h : decode w = .ok i) : encode i = w := by
  cases w with
  | req16 w =>
    cases h
    rfl
  | seq4 c =>
    rcases decodeSeq4_cases c with ⟨_, e⟩ | ⟨_, _, j, e, henc⟩ | ⟨_, _, e⟩ | ⟨_, e⟩ <;> cases e.symm.trans h
    exact henc
  | pin level =>
    by_cases hhigh : level = 1#1
    · subst hhigh
      cases h
      rfl
    · simp [decode, decodePin, hhigh] at h

/-- Settles O1: the two round trips, one by the operation (`decode_encode`) and one by the place (`encode_of_decode`). -/
theorem decodeAndEncodeAgree : Obligations.DecodeAndEncodeAgree :=
  ⟨fun i _ => decode_encode i, fun _ _ => encode_of_decode⟩

/-! ## The phase codes -/

theorem phaseOfCode_phaseCode (p : Phase) : phaseOfCode (phaseCode p) = some p := by cases p <;> rfl

theorem phaseCode_of_phaseOfCode {c : BitVec 4} {p : Phase} (h : phaseOfCode c = some p) : phaseCode p = c := by
  unfold phaseOfCode at h
  split at h <;> cases h
  all_goals exact BitVec.eq_of_toNat_eq (Eq.symm ‹_›)

theorem phaseOfCode_eq_some_iff {c : BitVec 4} {p : Phase} : phaseOfCode c = some p ↔ phaseCode p = c :=
  ⟨phaseCode_of_phaseOfCode, fun h => h ▸ phaseOfCode_phaseCode p⟩

/-- No phase has one of the codes 11 to 14 (R102). -/
theorem phaseCode_used (p : Phase) : (phaseCode p).toNat ≤ 10 ∨ (phaseCode p).toNat = 15 := by cases p <;> decide

theorem phaseOfCode_unused {c : BitVec 4} (hlo : 11 ≤ c.toNat) (hhi : c.toNat ≤ 14) : phaseOfCode c = none := by
  cases h : phaseOfCode c with
  | none => rfl
  | some p =>
    have := phaseCode_used p
    rw [phaseCode_of_phaseOfCode h] at this
    omega

/-- Settles O2: what the decoder makes of a code (`decodeSeq4_cases`), and the rows of R100's table by evaluation. -/
theorem phaseCodesSelectTheirMicroOperation : Obligations.PhaseCodesSelectTheirMicroOperation := by
  refine ⟨fun c => ?selects, fun c hlo hhi => ⟨?unused, phaseOfCode_unused hlo hhi⟩,
    fun _ _ => phaseOfCode_eq_some_iff, ?table⟩
  case selects =>
    rcases decodeSeq4_cases c with ⟨_, e⟩ | ⟨hlo, hhi, i, e, _⟩ | ⟨_, _, e⟩ | ⟨_, e⟩
    case inr.inl => exact ⟨fun _ => ⟨hlo, hhi⟩, fun _ => ⟨i, e⟩⟩
    all_goals exact ⟨fun ⟨_, h⟩ => (nomatch e.symm.trans h), fun _ => by omega⟩
  case unused =>
    rcases decodeSeq4_cases c with ⟨_, _⟩ | ⟨_, _, _⟩ | ⟨_, _, e⟩ | ⟨_, _⟩
    case inr.inr.inl => exact e
    all_goals omega
  case table => decide

/-! ## The fields of the interface words -/

/-- A word of `w` bits with the field `x` from bit `k` on and zero elsewhere. -/
def field (w k : Nat) {n : Nat} (x : BitVec n) : BitVec w := x.setWidth w <<< k

section Field

variable {w k n : Nat} (x : BitVec n)

theorem getLsbD_field (hfit : k + n ≤ w) (i : Nat) : (field w k x).getLsbD i = (decide (k ≤ i) && x.getLsbD (i - k)) := by
  by_cases hi : i - k < n
  · by_cases hk : k ≤ i
    · simp [field, hk, show i < w by omega]
    · simp [field, show i < k by omega]
  · simp [field, BitVec.getLsbD_of_ge x (i - k) (by omega)]

theorem extractLsb'_field_same (hfit : k + n ≤ w) : (field w k x).extractLsb' k n = x := by
  apply BitVec.eq_of_getLsbD_eq
  intro i hi
  simp [getLsbD_field x hfit, hi]

theorem extractLsb'_field_apart (hfit : k + n ≤ w) {j m : Nat} (hapart : j + m ≤ k ∨ k + n ≤ j) :
    (field w k x).extractLsb' j m = 0#m := by
  apply BitVec.eq_of_getLsbD_eq
  intro i hi
  rcases hapart with hbelow | habove
  · simp [getLsbD_field x hfit, show ¬ k ≤ j + i by omega]
  · simp [getLsbD_field x hfit, BitVec.getLsbD_of_ge x (j + i - k) (by omega)]

/-- The bit of a flag is its field of one bit. -/
theorem getLsbD_of_extractLsb' {x : BitVec w} {b : Bool} (h : x.extractLsb' k 1 = BitVec.ofBool b) : x.getLsbD k = b := by
  simpa using congrArg (BitVec.getLsbD · 0) h

end Field

theorem resp32_eq_fields (paddr : Paddr) (value : Byte) (hit fault : Bool) :
    resp32 paddr value hit fault =
      field 32 0 paddr ||| field 32 16 value ||| field 32 24 (BitVec.ofBool hit) |||
        field 32 25 (BitVec.ofBool fault) := by
  simp [resp32, field]

/-- Settles O4: a field reads itself where it lies, and zero where another lies. -/
theorem responseWordLayout : Obligations.ResponseWordLayout := by
  intro paddr value hit fault
  rw [resp32_eq_fields]
  refine ⟨?_, ?_, getLsbD_of_extractLsb' ?_, getLsbD_of_extractLsb' ?_, ?_⟩ <;>
    simp [BitVec.extractLsb'_or, extractLsb'_field_same, extractLsb'_field_apart]

theorem State.status16_eq_fields (s : State) :
    s.status16 =
      field 16 0 (if s.errCause = .none then 0#8 else s.errPage) ||| field 16 8 (causeCode s.errCause) |||
        field 16 10 (BitVec.ofBool s.halted) ||| field 16 11 (BitVec.ofBool s.busy) := by
  simp [State.status16, field]

theorem State.busy_iff (s : State) : s.busy = true ↔ s.phase ≠ .idle ∧ s.phase ≠ .halt := by simp [State.busy]

/-- Settles O5: the outputs by the phase, the fields of STATUS16 as those of RESP32, and the cause codes by definition. -/
theorem statusWordLayout : Obligations.StatusWordLayout := by
  intro s
  rw [s.status16_eq_fields]
  refine ⟨s.busy_iff, s.halted_iff, rfl, ?_, ?_, getLsbD_of_extractLsb' ?_,
    getLsbD_of_extractLsb' ?_, ?_, rfl, rfl, rfl, rfl⟩ <;>
    simp [BitVec.extractLsb'_or, extractLsb'_field_same, extractLsb'_field_apart]

/-- Settles O7: the low 16 bits are the remainder by `2^16`. -/
theorem driverMaskKeepsTheLowHalf : Obligations.DriverMaskKeepsTheLowHalf := by
  intro n
  rw [maskRequest, BitVec.extractLsb'_toNat, Nat.shiftRight_zero]

/-! ## The request port and the response port -/

theorem acceptsOnly_of_no_request (h : s.requests = []) : s.acceptsOnly = false := by
  simp [State.acceptsOnly, State.reqValid, h]

/-- Where no operation is selected, a step changes nothing. -/
theorem step_of_fetch_none (hw : s.params.wf = true) (ha : s.acceptsOnly = false) (hf : fetch s = none) :
    step s = .next s := by
  simp [step, hw, ha, hf]

theorem step_of_acceptsOnly (hw : s.params.wf = true) (ha : s.acceptsOnly = true) :
    step s = .next (s.accept s.headRequest) := by
  simp [step, hw, ha]

/-- Accepting the request on the port writes `req_vaddr` and the phase, and takes the request off the port (R92). -/
theorem State.accept_headRequest {rest : List Vaddr} (h : s.requests = va :: rest) :
    s.accept s.headRequest = { s with requests := rest, reqVaddr := va, phase := .split } := by
  simp [State.accept, State.headRequest, h]

/-- Settles O9: without a request nothing is selected, and at the phase level a request is only accepted. -/
theorem idleAcceptsOrWaits : Obligations.IdleAcceptsOrWaits := by
  intro s hw hr hp
  refine ⟨fun hq => ?waits, fun hl va rest hq => ?accepts⟩
  case waits =>
    have hf : fetch s = none := by rw [fetch_idle hr hp, hq]; rfl
    exact step_of_fetch_none hw (acceptsOnly_of_no_request hq) hf
  case accepts =>
    have ha : s.acceptsOnly = true := (acceptsOnly_iff s).mpr ⟨hl, hr, hp, by simp [hq]⟩
    rw [step_of_acceptsOnly hw ha, State.accept_headRequest hq]

/-- A result that the driver is not ready for stands in `RESP` with every register as it was (R95). -/
theorem State.respond_of_stands (hp : s.phase = .resp) (hr : s.respReady = false) : s.respond = s := by
  rw [s.respond_notReady hr, ← hp]
  rfl

/-- Settles O32: the selected RESPOND changes nothing (`State.respond_of_stands`), and so it repeats. -/
theorem respondHoldsTheRecord : Obligations.RespondHoldsTheRecord := by
  intro s n hw hr hp hready
  have hexec : exec .respond s = .next s := congrArg Host.Outcome.next (State.respond_of_stands hp hready)
  obtain ⟨_, _, hphase⟩ := stepRunsTheSelectedOperation s hw
  have hstep : step s = exec .respond s := hphase hr .respond (by rw [hp]; rfl)
  exact ⟨hexec, run_eq_self_of_step (hstep.trans hexec) n, by simp [State.respValid, hr, hp],
    s.busy_iff.mpr (by simp [hp])⟩

/-- Settles O39: TRANSLATE runs in `IDLE` only (`execTranslate_of_not_idle`). -/
theorem translateIsAcceptedInIdleOnly : Obligations.TranslateIsAcceptedInIdleOnly :=
  fun _ _ hp => execTranslate_of_not_idle hp

end Sys2Proof.Machine
end

section
/-! The TLB family (R111 to R114, R117): the oldest-first scan and its hardware form, TLB.INSERT with the age of the
entries, and TLB.INVAL. -/

namespace Sys2Proof.Machine

variable {s : State} {tlb : List Entry} {p : Page}

/-! ## The scan (R111) and the comparators (R117) -/

/-- The scan answers the frame of the first entry for the page (R111). -/
theorem tlbFind_of_first {i : Nat} {e : Entry} (he : tlb[i]? = some e) (hp : e.page = p)
    (hfirst : ∀ (j : Nat) (d : Entry), j < i → tlb[j]? = some d → d.page ≠ p) : tlbFind tlb p = some e.frame := by
  induction tlb generalizing i with
  | nil => simp at he
  | cons d rest ih =>
    cases i with
    | zero =>
      obtain rfl : d = e := by simpa using he
      simp [tlbFind, hp]
    | succ i =>
      have hd : d.page ≠ p := hfirst 0 d (Nat.succ_pos i) rfl
      have hrest : tlbFind rest p = some e.frame :=
        ih (by simpa using he) fun j c hj hc => hfirst (j + 1) c (Nat.succ_lt_succ hj) (by simpa using hc)
      simp [tlbFind, hd, hrest]

theorem exec_tlbLookup_hit {f : Frame} (h : tlbFind s.tlb s.curPage = some f) :
    exec .tlbLookup s = .next { s with curFrame := f, resTlbHit := true, resPageFault := false, phase := .comb } := by
  change execTlbLookup s = _
  rw [execTlbLookup, h]
  rfl

theorem exec_tlbLookup_miss (h : tlbFind s.tlb s.curPage = none) :
    exec .tlbLookup s = .next { s with resTlbHit := false, phase := .ptl } := by
  change execTlbLookup s = _
  rw [execTlbLookup, h]
  rfl

/-- Settles O14: the scan answers the first entry for the page (`tlbFind_of_first`) or misses. -/
theorem tlbLookupScansOldestFirst : Obligations.TlbLookupScansOldestFirst := by
  intro s
  refine ⟨fun i e he hp hfirst => ?hit, fun habsent => ?miss, rfl⟩
  case hit => exact exec_tlbLookup_hit (tlbFind_of_first he hp hfirst)
  case miss => exact exec_tlbLookup_miss (tlbFind_eq_none_iff.mpr habsent)

/-- The lowest matching slot holds the entry that the scan answers, and where no slot matches the scan misses (R117). -/
theorem tlbFindParallel_eq_tlbFind {size : Nat} (hcap : tlb.length ≤ size) (p : Page) :
    tlbFindParallel size tlb p = tlbFind tlb p := by
  cases hslot : (List.range size).find? (tlbMatch tlb p) with
  | some i =>
    obtain ⟨hi, _, hlow⟩ := List.find?_range_eq_some.mp hslot
    obtain ⟨e, he, hp⟩ := (tlbMatch_eq tlb p i).mp hi
    have hfirst : ∀ (j : Nat) (d : Entry), j < i → tlb[j]? = some d → d.page ≠ p := by
      intro j d hj hd hdp
      have hmatch : tlbMatch tlb p j = true := (tlbMatch_eq tlb p j).mpr ⟨d, hd, hdp⟩
      simpa [hmatch] using hlow j hj
    rw [tlbFind_of_first he hp hfirst]
    simp [tlbFindParallel, hslot, tlbSlot, he]
  | none =>
    have habsent : ∀ e ∈ tlb, e.page ≠ p := by
      intro e he hp
      obtain ⟨i, hi, hie⟩ := List.mem_iff_getElem.mp he
      have hmatch : tlbMatch tlb p i = true := (tlbMatch_eq tlb p i).mpr ⟨e, by simp [hi, hie], hp⟩
      exact List.find?_eq_none.mp hslot i (List.mem_range.mpr (by omega)) hmatch
    rw [tlbFind_eq_none_iff.mpr habsent]
    simp [tlbFindParallel, hslot]

/-- Where the pages are distinct the match is one-hot or empty (R51, R117). -/
theorem tlbMatch_unique (hnodup : (tlb.map Entry.page).Nodup) {i j : Nat} (hi : tlbMatch tlb p i = true)
    (hj : tlbMatch tlb p j = true) : i = j := by
  have page_at {k : Nat} (hk : tlbMatch tlb p k = true) : (tlb.map Entry.page)[k]? = some p := by
    obtain ⟨e, he, hp⟩ := (tlbMatch_eq tlb p k).mp hk
    simp [he, hp]
  have hlt : i < (tlb.map Entry.page).length := (List.getElem?_eq_some_iff.mp (page_at hi)).1
  exact (List.getElem?_inj hlt hnodup).mp ((page_at hi).trans (page_at hj).symm)

/-- Settles O15: the two forms answer alike (`tlbFindParallel_eq_tlbFind`), and distinct pages give one match at most. -/
theorem parallelLookupEqualsTheScan : Obligations.ParallelLookupEqualsTheScan :=
  fun _ _ p hcap => ⟨tlbFindParallel_eq_tlbFind hcap p, fun hnodup _ _ => tlbMatch_unique hnodup⟩

/-! ## TLB.INSERT (R112) and the age of the entries (R114) -/

theorem tlbPush_of_length_ne {size : Nat} (h : tlb.length ≠ size) (p : Page) (f : Frame) :
    tlbPush size tlb p f = tlb ++ [Entry.mk p f] := by simp [tlbPush, h]

theorem tlbPush_of_full {size : Nat} {oldest : Entry} (h : (oldest :: tlb).length = size) (p : Page) (f : Frame) :
    tlbPush size (oldest :: tlb) p f = tlb ++ [Entry.mk p f] := by rw [tlbPush, if_pos h, List.tail_cons]

/-- One insertion keeps the last `TLB_SIZE` of the old entries and the new one (R112, R114). -/
theorem tlbPush_eq_drop {size : Nat} (hsize : 1 ≤ size) (hcap : tlb.length ≤ size) (e : Entry) :
    tlbPush size tlb e.page e.frame = (tlb ++ [e]).drop (tlb.length + 1 - size) := by
  by_cases hfull : tlb.length = size
  · cases tlb with
    | nil => simp at hfull; omega
    | cons oldest rest =>
      have hone : (oldest :: rest).length + 1 - size = 1 := by omega
      rw [tlbPush_of_full hfull, hone, List.cons_append, List.drop_one, List.tail_cons]
  · have hzero : tlb.length + 1 - size = 0 := by omega
    rw [tlbPush_of_length_ne hfull, hzero, List.drop_zero]

/-- Settles O17, by induction on the insertions: the first one leaves the youngest entries (`tlbPush_eq_drop`), and
dropping the oldest of those again drops the oldest of all. -/
theorem tlbKeepsTheYoungestInOrder : Obligations.TlbKeepsTheYoungestInOrder := by
  intro size tlb inserted hsize hcap
  induction inserted generalizing tlb with
  | nil =>
    have hzero : tlb.length - size = 0 := by omega
    simp [hzero]
  | cons e inserted ih =>
    have hle : tlb.length + 1 - size ≤ (tlb ++ [e]).length := by simp
    rw [List.foldl_cons, ih _ (tlbPush_length_le hcap hsize _ _), tlbPush_eq_drop hsize hcap,
      ← List.drop_append_of_le_length hle, List.drop_drop, List.append_assoc, List.singleton_append]
    congr 1
    simp only [List.length_drop, List.length_append, List.length_cons, List.length_nil]
    omega

/-- In a list without repetition, dropping `k` elements keeps exactly those at index `k` and above. -/
theorem mem_drop_iff_of_nodup {l : List Entry} (hnodup : l.Nodup) {i : Nat} {e : Entry} (he : l[i]? = some e)
    (k : Nat) : e ∈ l.drop k ↔ k ≤ i := by
  have hi : i < l.length := (List.getElem?_eq_some_iff.mp he).1
  rw [List.mem_iff_getElem?]
  simp only [List.getElem?_drop]
  constructor
  · rintro ⟨n, hn⟩
    have : i = k + n := (List.getElem?_inj hi hnodup).mp (he.trans hn.symm)
    omega
  · intro hk
    exact ⟨i - k, by rwa [Nat.add_sub_cancel' hk]⟩

/-- Settles O18: the TLB holds the youngest entries (`tlbKeepsTheYoungestInOrder`), and the entry is not among the
inserted ones, so it is held exactly when its index is not below the number of entries dropped. -/
theorem tlbEntryLifetime : Obligations.TlbEntryLifetime := by
  intro size tlb inserted i e hsize hcap hnodup he hother
  have hnot (n : Nat) : e ∉ inserted.drop n := fun h => hother e (List.mem_of_mem_drop h) rfl
  have hi : i < tlb.length := (List.getElem?_eq_some_iff.mp he).1
  rw [tlbKeepsTheYoungestInOrder size tlb inserted hsize hcap, List.drop_append, List.mem_append,
    mem_drop_iff_of_nodup (hnodup.of_map Entry.page) he]
  simp only [hnot, or_false]
  omega

theorem exec_tlbInsert (s : State) : exec .tlbInsert s =
    .next { s with tlb := tlbPush s.params.tlbSize s.tlb s.curPage s.curFrame, phase := .comb } := rfl

/-- Settles O16: TLB.INSERT is `tlbPush` on the machine, below capacity and at capacity. -/
theorem tlbInsertAppendsAndEvictsTheOldest : Obligations.TlbInsertAppendsAndEvictsTheOldest := by
  intro s
  refine ⟨fun hbelow => ?below, fun hfull oldest rest hcons => ?full⟩
  case below => rw [exec_tlbInsert, tlbPush_of_length_ne hbelow]
  case full => rw [exec_tlbInsert, hcons, tlbPush_of_full (hcons ▸ hfull)]

/-! ## TLB.INVAL (R113) -/

theorem tlbRemove_sublist (tlb : List Entry) (v : Page) : (tlbRemove tlb v).Sublist tlb := List.filter_sublist

theorem tlbRemove_of_absent {v : Page} (h : ∀ e ∈ tlb, e.page ≠ v) : tlbRemove tlb v = tlb :=
  List.filter_eq_self.mpr fun e he => decide_eq_true (h e he)

theorem tlbRemove_append (l l' : List Entry) (v : Page) :
    tlbRemove (l ++ l') v = tlbRemove l v ++ tlbRemove l' v := List.filter_append ..

theorem tlbRemove_cons_self (e : Entry) (tlb : List Entry) : tlbRemove (e :: tlb) e.page = tlbRemove tlb e.page := by
  simp [tlbRemove]

/-- With distinct pages, the removed entry is the only one that goes: those around it stay (R51, R113). -/
theorem tlbRemove_around {before after : List Entry} {e : Entry}
    (hnodup : ((before ++ e :: after).map Entry.page).Nodup) :
    tlbRemove (before ++ e :: after) e.page = before ++ after := by
  simp only [List.map_append, List.map_cons, List.nodup_append, List.nodup_cons, List.mem_map, List.mem_cons] at hnodup
  obtain ⟨_, ⟨hafter, _⟩, hbefore⟩ := hnodup
  have hb : tlbRemove before e.page = before :=
    tlbRemove_of_absent fun d hd => hbefore _ ⟨d, hd, rfl⟩ _ (.inl rfl)
  have ha : tlbRemove after e.page = after := tlbRemove_of_absent fun d hd hpage => hafter ⟨d, hd, hpage⟩
  rw [tlbRemove_append, tlbRemove_cons_self, hb, ha]

theorem exec_tlbInval (s : State) :
    exec .tlbInval s = .next { s with tlb := tlbRemove s.tlb s.evictPage, phase := .fill } := rfl

/-- Settles O19: TLB.INVAL is `tlbRemove` on the machine, and with distinct pages it leaves what stands around the entry
(`tlbRemove_around`). -/
theorem tlbInvalRemovesThePage : Obligations.TlbInvalRemovesThePage := by
  intro s
  refine ⟨_, exec_tlbInval s, rfl, tlbRemove_sublist _ _, fun _ => mem_tlbRemove, tlbRemove_of_absent, ?_⟩
  rintro hnodup ⟨e, he, hpage⟩
  obtain ⟨before, after, hsplit⟩ := List.append_of_mem he
  rw [hsplit] at hnodup
  simp only [← hpage, hsplit, tlbRemove_around hnodup, List.length_append, List.length_cons]
  omega

end Sys2Proof.Machine
end

section
/-! The page-table family (R131 to R137): PT.LOOKUP, the three answers of PT.ALLOC, and the round robin of frames that the
replacement queue gives. -/

namespace Sys2Proof.Machine

variable {s : State} {c : Params} {pt : PageTable} {rq rest : List Entry} {count : Nat} {p : Page} {f : Frame}
  {victim : Entry}

/-! ## PT.LOOKUP (R131) -/

theorem exec_ptLookup_hit (h : ptGet s.pt s.curPage = some f) :
    exec .ptLookup s = .next { s with curFrame := f, resPageFault := false, phase := .tlbi } := by
  change execPtLookup s = _
  rw [execPtLookup, h]
  rfl

theorem exec_ptLookup_absent (h : ptGet s.pt s.curPage = none) :
    exec .ptLookup s = .next { s with resPageFault := true, phase := .alloc } := by
  change execPtLookup s = _
  rw [execPtLookup, h]
  rfl

/-- Settles O20: the slot holds a frame or is absent. -/
theorem ptLookupReadsTheSlot : Obligations.PtLookupReadsTheSlot := fun _ =>
  ⟨fun _ => exec_ptLookup_hit, exec_ptLookup_absent, rfl⟩

/-! ## The answers of PT.ALLOC (R132 to R135) -/

theorem ptAllocate_resident (h : ptGet pt p = some f) :
    ptAllocate c pt rq count p = .error (.allocOnResidentPage p) := by
  simp [ptAllocate, h]

theorem ptAllocate_free (hp : ptGet pt p = none) (hc : count < c.numFrames) :
    ptAllocate c pt rq count p = .ok (freeAllocation pt rq count p) := by
  simp [ptAllocate, freeAllocation, hp, hc]

theorem ptAllocate_evicting (hp : ptGet pt p = none) (hc : c.numFrames ≤ count) :
    ptAllocate c pt (victim :: rest) count p = .ok (evictingAllocation pt victim rest count p) := by
  simp [ptAllocate, evictingAllocation, hp, hc]

theorem exec_ptAlloc_of_error {r : Refusal} (h : ptAllocate s.params s.pt s.rq s.allocCount s.curPage = .error r) :
    exec .ptAlloc s = .refused r := by
  change execPtAlloc s = _
  rw [execPtAlloc, State.allocate, h]

theorem exec_ptAlloc_of_ok {a : Allocation} (h : ptAllocate s.params s.pt s.rq s.allocCount s.curPage = .ok a) :
    exec .ptAlloc s =
      .next ((s.withAllocation a).goto (if (s.withAllocation a).mustInvalidate then .inval else .fill)) := by
  change execPtAlloc s = _
  rw [execPtAlloc, State.allocate, h]

/-- Settles O23. -/
theorem ptAllocRefusesAResidentPage : Obligations.PtAllocRefusesAResidentPage := fun _ _ h =>
  exec_ptAlloc_of_error (ptAllocate_resident h)

/-- Settles O21: the answer is `freeAllocation`, which evicts no page, so that no TLB.INVAL follows. -/
theorem ptAllocTakesTheNextUnusedFrame : Obligations.PtAllocTakesTheNextUnusedFrame := by
  intro s hp hc
  have hexec := exec_ptAlloc_of_ok (ptAllocate_free (rq := s.rq) hp hc)
  have hkeep : (s.withAllocation (freeAllocation s.pt s.rq s.allocCount s.curPage)).mustInvalidate = false := by
    simp [State.mustInvalidate, freeAllocation]
  rw [hkeep] at hexec
  exact ⟨_, hexec, rfl, fun q => ptGet_ptSet s.pt s.curPage q _⟩

/-- An eviction is followed by TLB.INVAL under INVALIDATE and by BS.FILL under PRESERVE (R163). -/
theorem phase_after_eviction (s : State) (victim : Entry) (rest : List Entry) :
    (if (s.withAllocation (evictingAllocation s.pt victim rest s.allocCount s.curPage)).mustInvalidate then Phase.inval
      else Phase.fill) =
    match s.params.policy with
    | .invalidate => Phase.inval
    | .preserve => Phase.fill := by
  cases h : s.params.policy <;> simp [State.mustInvalidate, evictingAllocation, h]

/-- Settles O22: the answer is `evictingAllocation`, and the policy selects the phase (`phase_after_eviction`). -/
theorem ptAllocReusesTheOldestFrame : Obligations.PtAllocReusesTheOldestFrame := by
  intro s victim rest hp hc hq
  have hexec := exec_ptAlloc_of_ok (hq ▸ ptAllocate_evicting (victim := victim) (rest := rest) hp hc)
  refine ⟨_, hexec, ?state, fun q => ?slots⟩
  case state =>
    rw [phase_after_eviction]
    rfl
  case slots => simp only [State.goto_pt, State.withAllocation_pt, evictingAllocation, ptGet_ptSet]

/-! ## The round robin of frames (R137) -/

/-- The pairs that PT.ALLOCs of `pages` since reset push, oldest first: the `i`-th gets frame `i mod N`. -/
def pushedPairs (N : Nat) (pages : List Page) : List Entry :=
  pages.mapIdx fun i p => Entry.mk p (BitVec.ofNat 8 (i % N))

/-- After PT.ALLOCs of `pages` since reset the queue holds the youngest `N` of the pairs they pushed. -/
structure AfterAllocations (N : Nat) (pages : List Page) (a : Allocation) : Prop where
  rq : a.rq = (pushedPairs N pages).drop (pages.length - N)
  allocCount : a.allocCount = min pages.length N

variable {N : Nat} {pages : List Page}

@[simp] theorem length_pushedPairs : (pushedPairs N pages).length = pages.length := by simp [pushedPairs]

theorem getElem?_pushedPairs (i : Nat) :
    (pushedPairs N pages)[i]? = pages[i]?.map fun p => Entry.mk p (BitVec.ofNat 8 (i % N)) := by
  simp [pushedPairs]

theorem pushedPairs_concat (N : Nat) (pages : List Page) (p : Page) :
    pushedPairs N (pages ++ [p]) = pushedPairs N pages ++ [Entry.mk p (BitVec.ofNat 8 (pages.length % N))] := by
  simp [pushedPairs, List.mapIdx_append]

theorem afterAllocations_noAllocation (N : Nat) : AfterAllocations N [] noAllocation where
  rq := List.drop_nil.symm
  allocCount := (Nat.zero_min N).symm

namespace AfterAllocations

variable {a b : Allocation}

/-- Once `N` frames are allocated, the front of the queue is the pair pushed `N` allocations ago. Its frame is the one that
the next allocation is due. -/
theorem front (h : AfterAllocations N pages a) (hfull : N ≤ pages.length) (hq : a.rq = victim :: rest) :
    pages[pages.length - N]? = some victim.page ∧ victim.frame = BitVec.ofNat 8 (pages.length % N) ∧
      rest = (pushedPairs N pages).drop (pages.length - N + 1) := by
  have hdrop : (pushedPairs N pages).drop (pages.length - N) = victim :: rest := h.rq.symm.trans hq
  have hvictim : (pushedPairs N pages)[pages.length - N]? = some victim := by
    rw [← List.head?_drop, hdrop, List.head?_cons]
  rw [getElem?_pushedPairs, Option.map_eq_some_iff] at hvictim
  obtain ⟨q, hpage, rfl⟩ := hvictim
  refine ⟨hpage, by rw [Nat.mod_eq_sub_mod hfull], ?_⟩
  rw [← List.tail_drop, hdrop, List.tail_cons]

/-- The next PT.ALLOC takes frame `n mod N` and evicts the page mapped `N` allocations ago, if there is one (R137). -/
theorem ptAllocate (h : AfterAllocations c.numFrames pages a)
    (hb : Machine.ptAllocate c a.pt a.rq a.allocCount p = .ok b) :
    b.frame = BitVec.ofNat 8 (pages.length % c.numFrames) ∧
      b.evicted = (if pages.length < c.numFrames then none else pages[pages.length - c.numFrames]?) ∧
      AfterAllocations c.numFrames (pages ++ [p]) b := by
  have hcount := h.allocCount
  obtain ⟨_, ⟨hc, rfl⟩ | ⟨victim, rest, hc, hq, rfl⟩⟩ := ptAllocate_ok_cases hb
  · have hfree : pages.length < c.numFrames := by omega
    have hnext : a.allocCount = pages.length := by omega
    have hkept : a.rq = pushedPairs c.numFrames pages := by rw [h.rq, Nat.sub_eq_zero_of_le hfree.le, List.drop_zero]
    refine ⟨?frame, (if_pos hfree).symm, ?rq, ?count⟩
    case frame => simp only [freeAllocation, hnext, Nat.mod_eq_of_lt hfree]
    case rq =>
      have hnone : (pages ++ [p]).length - c.numFrames = 0 := by rw [List.length_append, List.length_singleton]; omega
      simp only [freeAllocation, hnext, hkept, hnone, List.drop_zero, pushedPairs_concat, Nat.mod_eq_of_lt hfree]
    case count =>
      simp only [freeAllocation, List.length_append, List.length_singleton]
      omega
  · have hfull : c.numFrames ≤ pages.length := by omega
    obtain ⟨hpage, hframe, hrest⟩ := h.front hfull hq
    have hlt : pages.length - c.numFrames < pages.length := (List.getElem?_eq_some_iff.mp hpage).1
    refine ⟨hframe, ?evicted, ?rq, ?count⟩
    case evicted => rw [if_neg hfull.not_gt, hpage]; rfl
    case rq =>
      have hdrop : (pages ++ [p]).length - c.numFrames = pages.length - c.numFrames + 1 := by
        rw [List.length_append, List.length_singleton]
        omega
      rw [hdrop, pushedPairs_concat, List.drop_append_of_le_length (length_pushedPairs.symm ▸ hlt)]
      simp only [evictingAllocation, hrest, hframe]
    case count =>
      simp only [evictingAllocation, List.length_append, List.length_singleton]
      omega

/-- A run of PT.ALLOCs keeps to the round robin. -/
theorem allocateAll {done : List Page} (h : AfterAllocations c.numFrames done a)
    (hb : Machine.allocateAll c pages a = .ok b) : AfterAllocations c.numFrames (done ++ pages) b := by
  induction pages generalizing done a with
  | nil =>
    cases hb
    rwa [List.append_nil]
  | cons p ps ih =>
    rw [Machine.allocateAll] at hb
    split at hb
    · cases hb
    · next m hm =>
      obtain ⟨_, _, hnext⟩ := h.ptAllocate hm
      rw [List.append_cons]
      exact ih hnext hb

end AfterAllocations

/-- Settles O24: the run of PT.ALLOCs is by induction over the pages (`AfterAllocations.allocateAll`), and the next one is due
what `AfterAllocations.ptAllocate` says. -/
theorem nthAllocationGetsFrameNModFrames : Obligations.NthAllocationGetsFrameNModFrames := by
  intro c pages p a b hlegal ha hb
  obtain ⟨hpos, hle, _⟩ := (Params.wf_iff c).mp hlegal
  have hafter : AfterAllocations c.numFrames pages a := (afterAllocations_noAllocation _).allocateAll ha
  obtain ⟨hframe, hevicted, _⟩ := hafter.ptAllocate hb
  have hlt : pages.length % c.numFrames < c.numFrames := Nat.mod_lt _ hpos
  refine ⟨?frame, fun hfree => by rw [hevicted, if_pos hfree], fun hfull => by rw [hevicted, if_neg hfull.not_gt]⟩
  case frame => rw [hframe, BitVec.toNat_ofNat, Nat.mod_eq_of_lt (by omega)]

end Sys2Proof.Machine
end

section
/-! The translator's micro-operations (R151, R156 to R158, R160, R163, R164): VA.SPLIT, BS.FILL, PA.COMBINE, MEM.READ and
RESPOND. -/

namespace Sys2Proof.Machine

variable {s : State}

/-! ## The signed byte (R160) -/

theorem signed8_eq_toInt (b : Byte) : signed8 b = b.toInt := by
  rw [signed8, BitVec.toInt_eq_toNat_cond]
  split <;> split <;> omega

/-- Settles O6: the reading is two's complement (`signed8_eq_toInt`), so its range and its inverse are those of
`BitVec.toInt`. -/
theorem signedByteReading : Obligations.SignedByteReading := by
  intro b
  have hlo : -2 ^ 7 ≤ b.toInt := BitVec.le_toInt b
  have hhi : b.toInt < 2 ^ 7 := BitVec.toInt_lt
  rw [signed8_eq_toInt]
  exact ⟨rfl, by omega, by omega, BitVec.ofInt_toInt⟩

/-! ## VA.SPLIT (R151) -/

theorem pageOf_eq_shift (va : Vaddr) : pageOf va = (va >>> 8).setWidth 8 := by
  apply BitVec.eq_of_toNat_eq
  simp [pageOf]

theorem offsetOf_eq_mask (va : Vaddr) : offsetOf va = (va &&& 0xFF#16).setWidth 8 := by
  apply BitVec.eq_of_toNat_eq
  simp only [offsetOf, BitVec.extractLsb'_toNat, BitVec.toNat_setWidth, BitVec.toNat_and, Nat.shiftRight_zero]
  rw [show (0xFF#16).toNat = 2 ^ 8 - 1 from rfl, Nat.and_two_pow_sub_one_eq_mod, Nat.mod_mod]

/-- An address is the offset of its page in the store plus its own offset (R63, R151). -/
theorem toNat_eq_storeBase_add (va : Vaddr) : va.toNat = storeBase (pageOf va) + (offsetOf va).toNat := by
  conv_lhs => rw [← split_join va]
  exact combine_toNat (pageOf va) (offsetOf va)

/-- Settles O13: the two fields are the shift and the mask, and together they are the address
(`toNat_eq_storeBase_add`). -/
theorem vaSplitGivesPageAndOffset : Obligations.VaSplitGivesPageAndOffset := by
  intro s
  refine ⟨?splits, toNat_eq_storeBase_add s.reqVaddr, rfl⟩
  case splits =>
    rw [← pageOf_eq_shift, ← offsetOf_eq_mask]
    rfl

/-! ## BS.FILL (R157) -/

/-- The state once the page is in the frame: the answer is used up and the frame holds the store's page (R157). -/
def State.filled (s : State) : State :=
  s.useAnswer.withMem (s.mem.writeBlock (frameBase s.curFrame) (storePage s.store s.curPage))

theorem State.fill_of_no_answer (ha : s.answers = []) : s.fill = .waiting := by rw [State.fill, ha]

theorem State.fill_of_ok {rest : List ReaderAnswer} (ha : s.answers = .ok :: rest)
    (hp : s.curPage.toNat < s.params.bsPages) (hf : s.curFrame.toNat < s.params.numFrames) :
    s.fill = .filled s.filled := by
  simp [State.fill, ha, bsReadPage, hp.not_ge, memWriteFrame, hf, State.filled]

theorem State.fill_of_error {answer : ReaderAnswer} {rest : List ReaderAnswer} {k : FailKind}
    (ha : s.answers = answer :: rest) (hk : bsReadPage s.params s.store answer s.curPage = .error k) :
    s.fill = .failed (s.useAnswer.takeBackingStoreFault k s.curPage) := by
  simp [State.fill, ha, hk]

theorem State.fill_of_noFrame {rest : List ReaderAnswer} (ha : s.answers = .ok :: rest)
    (hp : s.curPage.toNat < s.params.bsPages) (hf : s.params.numFrames ≤ s.curFrame.toNat) :
    s.fill = .noFrame (.noSuchAddress (frameBase s.curFrame)) := by
  simp [State.fill, ha, bsReadPage, hp.not_ge, memWriteFrame, hf.not_gt]

/-- The filled frame holds its page, byte for byte (R67, R68). -/
theorem State.read_filled (s : State) {o : Nat} (ho : o < pageSize) :
    s.filled.mem.read (frameBase s.curFrame + o) = some (storeRead s.store (storeBase s.curPage + o)) := by
  refine (Memory.read_writeBlock_in _ _ _ (by simpa using ho)).trans ?_
  simp [storePage_getElem]

theorem State.sameOutsideFrame_filled (s : State) : SameOutsideFrame s.curFrame s.mem s.filled.mem :=
  fun _ ha => Memory.read_writeBlock_out _ _ _ (by simpa using ha)

/-- Settles O25: BS.FILL ends in `State.filled`, whose memory is the block written over the frame. -/
theorem bsFillCopiesThePageIntoTheFrame : Obligations.BsFillCopiesThePageIntoTheFrame := by
  intro s rest ha hp hf
  have hexec : exec .bsFill s = .next (s.filled.goto .tlbi) := by
    change execBsFill s = _
    rw [execBsFill, State.fill_of_ok ha hp hf]
  have hrest : s.filled.answers = rest := congrArg List.tail ha
  refine ⟨_, hexec, ?frame, fun o ho => s.read_filled ho, s.sameOutsideFrame_filled⟩
  case frame =>
    rw [← hrest]
    rfl

/-- Settles O27: BS.FILL without an answer sends the phase to `FILL`, where it is, so the step changes nothing and
repeats. -/
theorem fillWaitsForTheReader : Obligations.FillWaitsForTheReader := by
  intro s n hw hr hp ha
  have hexec : exec .bsFill s = .next s := by
    change execBsFill s = _
    rw [execBsFill, State.fill_of_no_answer ha]
    exact congrArg Host.Outcome.next (s.goto_self .fill hp)
  obtain ⟨_, _, hphase⟩ := stepRunsTheSelectedOperation s hw
  have hstep : step s = exec .bsFill s := hphase hr .bsFill (by rw [hp]; rfl)
  exact ⟨run_eq_self_of_step (hstep.trans hexec) n, s.busy_iff.mpr (by simp [hp]), by simp [State.halted, hp],
    by simp [State.bsRequest, hr, hp]⟩

/-! ## PA.COMBINE (R156) -/

theorem combine_eq_add (f : Frame) (o : Offset) : combine f o = f.setWidth 16 * 256#16 + o.setWidth 16 := by
  apply BitVec.eq_of_toNat_eq
  have := f.isLt
  have := o.isLt
  rw [combine_toNat, frameBase]
  simp only [pageSize, BitVec.toNat_add, BitVec.toNat_mul, BitVec.toNat_setWidth, BitVec.toNat_ofNat]
  omega

theorem combine_eq_or (f : Frame) (o : Offset) : combine f o = (f.setWidth 16 <<< 8) ||| o.setWidth 16 := by
  apply BitVec.eq_of_toNat_eq
  have := f.isLt
  have := o.isLt
  simp only [combine, BitVec.toNat_append, BitVec.toNat_or, BitVec.toNat_shiftLeft, BitVec.toNat_setWidth,
    Nat.shiftLeft_eq]
  congr 1 <;> omega

/-- An address in a frame below `NUM_FRAMES` fits in `PADDR_BITS` bits (R156). -/
theorem combine_lt_two_pow_paddrBits {c : Params} {f : Frame} (h : f.toNat < c.numFrames) (o : Offset) :
    (combine f o).toNat < 2 ^ c.paddrBits := by
  have := o.isLt
  have hframes : c.numFrames ≤ 2 ^ c.frameBits :=
    calc c.numFrames ≤ 2 ^ Nat.clog 2 c.numFrames := Nat.le_pow_clog (by norm_num) _
      _ ≤ 2 ^ c.frameBits := Nat.pow_le_pow_right (by norm_num) (le_max_right _ _)
  rw [combine_toNat, frameBase, Params.paddrBits, Nat.pow_add]
  simp only [pageSize, offsetBits]
  omega

/-- Settles O28: the address is `combine`, in each of its forms. -/
theorem paCombineConcatenates : Obligations.PaCombineConcatenates := fun s =>
  ⟨combine s.curFrame s.curOffset, rfl, combine_toNat _ _, combine_eq_add _ _, combine_eq_or _ _, rfl,
    offsetOf_join _ _, fun h => ⟨combine_lt_memBytes h _, combine_lt_two_pow_paddrBits h _⟩, rfl⟩

/-! ## MEM.READ (R158) and RESPOND (R164) -/

theorem State.readByte_of_read {b : Byte} (ha : s.resPaddr.toNat < s.params.memBytes)
    (hb : s.mem.read s.resPaddr.toNat = some b) : s.readByte = .ok (s.withValue b) := by
  simp [State.readByte, memRead, ha, hb]

/-- Settles O29. -/
theorem memReadReadsTheByte : Obligations.MemReadReadsTheByte := by
  intro s b ha hb
  change execMemRead s = _
  rw [execMemRead, State.readByte_of_read ha hb]
  rfl

/-- Settles O31: with the driver ready, RESPOND is the delivery. -/
theorem respondDeliversTheRecord : Obligations.RespondDeliversTheRecord := fun s hr =>
  ⟨s.deliver, congrArg Host.Outcome.next (s.respond_ready hr), rfl⟩

end Sys2Proof.Machine
end

section
/-! The transaction (R161, R162, R170 to R172, R177): the three ways in which a TRANSLATE is served, what each leaves in the
structures, and what a result is worth. -/

namespace Sys2Proof.Machine

variable {s t u : State} {va : Vaddr} {a : Allocation} {rest : List ReaderAnswer}

/-! ## The TLB after PT.ALLOC -/

/-- The TLB once PT.ALLOC has answered: TLB.INVAL follows an eviction under INVALIDATE only (R116, R163). -/
def tlbAfterAlloc (policy : StalePolicy) (tlb : List Entry) (evicted : Option Page) : List Entry :=
  match policy, evicted with
  | .invalidate, some v => tlbRemove tlb v
  | _, _ => tlb

theorem tlbAfterAlloc_preserve (tlb : List Entry) (evicted : Option Page) :
    tlbAfterAlloc .preserve tlb evicted = tlb := rfl

theorem tlbAfterAlloc_none (policy : StalePolicy) (tlb : List Entry) : tlbAfterAlloc policy tlb none = tlb := by
  cases policy <;> rfl

theorem tlbAfterAlloc_evicted (tlb : List Entry) (v : Page) :
    tlbAfterAlloc .invalidate tlb (some v) = tlbRemove tlb v := rfl

theorem mem_of_mem_tlbAfterAlloc {policy : StalePolicy} {tlb : List Entry} {evicted : Option Page} {e : Entry}
    (h : e ∈ tlbAfterAlloc policy tlb evicted) : e ∈ tlb := by
  unfold tlbAfterAlloc at h
  split at h
  · exact (mem_tlbRemove.mp h).1
  · exact h

/-- The state after PT.ALLOC and the TLB.INVAL that may follow it. -/
def State.allocated (s : State) (a : Allocation) : State :=
  { s.withAllocation a with tlb := tlbAfterAlloc s.params.policy s.tlb a.evicted }

/-! One lemma per field of `State.allocated`, as for the updates of the model. -/

section Fields

variable (s : State) (a : Allocation)

@[simp] theorem State.allocated_params : (s.allocated a).params = s.params := rfl
@[simp] theorem State.allocated_level : (s.allocated a).level = s.level := rfl
@[simp] theorem State.allocated_store : (s.allocated a).store = s.store := rfl
@[simp] theorem State.allocated_resetPin : (s.allocated a).resetPin = s.resetPin := rfl
@[simp] theorem State.allocated_requests : (s.allocated a).requests = s.requests := rfl
@[simp] theorem State.allocated_respReady : (s.allocated a).respReady = s.respReady := rfl
@[simp] theorem State.allocated_answers : (s.allocated a).answers = s.answers := rfl
@[simp] theorem State.allocated_delivered : (s.allocated a).delivered = s.delivered := rfl
@[simp] theorem State.allocated_pt : (s.allocated a).pt = a.pt := rfl
@[simp] theorem State.allocated_rq : (s.allocated a).rq = a.rq := rfl
@[simp] theorem State.allocated_allocCount : (s.allocated a).allocCount = a.allocCount := rfl
@[simp] theorem State.allocated_mem : (s.allocated a).mem = s.mem := rfl
@[simp] theorem State.allocated_curPage : (s.allocated a).curPage = s.curPage := rfl
@[simp] theorem State.allocated_curOffset : (s.allocated a).curOffset = s.curOffset := rfl
@[simp] theorem State.allocated_curFrame : (s.allocated a).curFrame = a.frame := rfl
@[simp] theorem State.allocated_resTlbHit : (s.allocated a).resTlbHit = s.resTlbHit := rfl
@[simp] theorem State.allocated_resPageFault : (s.allocated a).resPageFault = s.resPageFault := rfl
@[simp] theorem State.allocated_errCause : (s.allocated a).errCause = s.errCause := rfl
@[simp] theorem State.allocated_errPage : (s.allocated a).errPage = s.errPage := rfl
@[simp] theorem State.allocated_tlb : (s.allocated a).tlb = tlbAfterAlloc s.params.policy s.tlb a.evicted := rfl

end Fields

theorem State.allocated_of_mustInvalidate (h : (s.withAllocation a).mustInvalidate = true) :
    s.allocated a = (s.withAllocation a).invalidateTlb := by
  obtain ⟨hpol, hev⟩ : s.params.policy = .invalidate ∧ a.evicted.isSome = true := by
    simpa [State.mustInvalidate] using h
  obtain ⟨v, hv⟩ := Option.isSome_iff_exists.mp hev
  simp [State.allocated, State.invalidateTlb, hpol, hv, tlbAfterAlloc_evicted]

theorem State.allocated_of_not_mustInvalidate (h : (s.withAllocation a).mustInvalidate = false) :
    s.allocated a = s.withAllocation a := by
  have hkeep : tlbAfterAlloc s.params.policy s.tlb a.evicted = s.tlb := by
    cases hpol : s.params.policy with
    | preserve => rfl
    | invalidate =>
      have hnone : a.evicted = none := by simpa [State.mustInvalidate, hpol] using h
      rw [hnone, tlbAfterAlloc_none]
  rw [State.allocated, hkeep]
  rfl

theorem translateFault_of_error (before : State) {r : Refusal}
    (h : ptAllocate s.params s.pt s.rq s.allocCount s.curPage = .error r) :
    translateFault before s = .refused r := by
  have hrefused : s.allocate = .error r := by rw [State.allocate, h]
  rw [translateFault, hrefused]

theorem translateFault_of_ok (before : State)
    (ha : ptAllocate s.params s.pt s.rq s.allocCount s.curPage = .ok a) :
    translateFault before s = translateFill before (s.allocated a) := by
  have hok : s.allocate = .ok (s.withAllocation a) := by rw [State.allocate, ha]
  cases hm : (s.withAllocation a).mustInvalidate with
  | true => simp [translateFault, hok, hm, State.allocated_of_mustInvalidate hm]
  | false => simp [translateFault, hok, hm, State.allocated_of_not_mustInvalidate hm]

/-! ## The three ways to be served (R161) -/

/-- The transaction of `va` at its PT.ALLOC: both lookups have missed. -/
def State.faulting (s : State) (va : Vaddr) : State := (s.accept va).splitVa.flagTlbMiss.flagPageFault true

/-- The lookups have changed none of what PT.ALLOC reads. -/
theorem State.ptAllocate_faulting (s : State) (va : Vaddr) :
    ptAllocate (s.faulting va).params (s.faulting va).pt (s.faulting va).rq (s.faulting va).allocCount
      (s.faulting va).curPage = ptAllocate s.params s.pt s.rq s.allocCount (pageOf va) := by
  simp [State.faulting]

theorem execTranslate_of_absent (hp : s.phase = .idle) (miss : tlbFind s.tlb (pageOf va) = none)
    (absent : ptGet s.pt (pageOf va) = none) : execTranslate va s = translateFault s (s.faulting va) := by
  rcases execTranslate_cases va s hp with ⟨f, hit, _⟩ | ⟨f, _, mapped, _⟩ | ⟨_, _, e⟩
  · cases miss.symm.trans hit
  · cases absent.symm.trans mapped
  · exact e

/-- The transaction of `va` that begins in `s` comes to the state `u` in which `cur_frame` serves it, with PA.COMBINE
next: by the TLB, by the page table, or by a page fault whose read succeeds. -/
inductive State.ServesIn (va : Vaddr) (s : State) : State → Prop where
  | tlbHit (f : Frame) (hit : tlbFind s.tlb (pageOf va) = some f) : ServesIn va s ((s.accept va).splitVa.onTlbHit f)
  | tableHit (f : Frame) (miss : tlbFind s.tlb (pageOf va) = none) (mapped : ptGet s.pt (pageOf va) = some f) :
      ServesIn va s ((s.accept va).splitVa.flagTlbMiss.onPtHit f).insertTlb
  | pageFault (a : Allocation) (rest : List ReaderAnswer) (miss : tlbFind s.tlb (pageOf va) = none)
      (absent : ptGet s.pt (pageOf va) = none)
      (alloc : ptAllocate s.params s.pt s.rq s.allocCount (pageOf va) = .ok a) (answer : s.answers = .ok :: rest)
      (inStore : (pageOf va).toNat < s.params.bsPages) (frame : a.frame.toNat < s.params.numFrames) :
      ServesIn va s ((s.faulting va).allocated a).filled.insertTlb

/-- The record of a transaction that byte `b` of `cur_frame` answers. -/
def State.answer (u : State) (va : Vaddr) (b : Byte) : Result :=
  ⟨combine u.curFrame (offsetOf va), signed8 b, u.resTlbHit, u.resPageFault⟩

namespace State.ServesIn

theorem execTranslate (h : s.ServesIn va u) (hp : s.phase = .idle) : execTranslate va s = translateFinish u := by
  cases h with
  | tlbHit f hit => simp [Machine.execTranslate, hp, translateAccepted, hit]
  | tableHit f miss mapped => simp [Machine.execTranslate, hp, translateAccepted, translateMiss, miss, mapped]
  | pageFault a rest miss absent alloc answer inStore frame =>
    have hfault : translateFault s (s.faulting va) = translateFill s ((s.faulting va).allocated a) :=
      translateFault_of_ok s (State.ptAllocate_faulting s va ▸ alloc)
    have hfill : ((s.faulting va).allocated a).fill = .filled ((s.faulting va).allocated a).filled :=
      State.fill_of_ok (by simpa [State.faulting] using answer) (by simpa [State.faulting] using inStore)
        (by simpa [State.faulting] using frame)
    rw [execTranslate_of_absent hp miss absent, hfault, translateFill, hfill]

theorem surroundings (h : s.ServesIn va u) : s.SameSurroundings u := by
  cases h <;> simp [State.SameSurroundings, State.filled, State.faulting]

theorem respReady (h : s.ServesIn va u) : u.respReady = s.respReady := by
  cases h <;> simp [State.filled, State.faulting]

theorem params (h : s.ServesIn va u) : u.params = s.params := by
  cases h <;> simp [State.filled, State.faulting]

theorem delivered (h : s.ServesIn va u) : u.delivered = s.delivered := by
  cases h <;> simp [State.filled, State.faulting]

theorem curOffset (h : s.ServesIn va u) : u.curOffset = offsetOf va := by
  cases h <;> simp [State.filled, State.faulting]

/-- The TLB serves the page with the frame, before the transaction or after its TLB.INSERT (R170). -/
theorem tlbFind (h : s.ServesIn va u) : tlbFind u.tlb (pageOf va) = some u.curFrame := by
  cases h with
  | tlbHit f hit => exact hit
  | tableHit f miss mapped => exact tlbFind_push f (tlbFind_eq_none_iff.mp miss)
  | pageFault a rest miss absent alloc answer inStore frame =>
    exact tlbFind_push a.frame fun e he => tlbFind_eq_none_iff.mp miss e (mem_of_mem_tlbAfterAlloc he)

/-- A page that the TLB has is served by it, and by nothing else. -/
theorem of_hit (h : s.ServesIn va u) {f : Frame} (hit : Machine.tlbFind s.tlb (pageOf va) = some f) :
    u = (s.accept va).splitVa.onTlbHit f := by
  cases h with
  | tlbHit g hit' => rw [Option.some.inj (hit'.symm.trans hit)]
  | tableHit g miss mapped => cases miss.symm.trans hit
  | pageFault a rest miss absent alloc answer inStore frame => cases miss.symm.trans hit

end State.ServesIn

/-! ## How a served transaction ends -/

/-- RESPOND puts the record of the result registers where the driver's readiness has it (R95). -/
theorem State.answered_respond (hr : u.respReady = s.respReady) (hd : u.delivered = s.delivered) :
    s.Answered u.respond u.result := by
  constructor <;> intro h
  · rw [u.respond_ready (hr.trans h), u.deliver_delivered, hd]
    exact ⟨rfl, rfl⟩
  · rw [u.respond_notReady (hr.trans h)]
    exact ⟨hd, rfl, rfl⟩

/-- A served transaction whose byte has a value comes to its result and writes only registers on the way (R161). -/
theorem State.ServesIn.answers {b : Byte} (h : s.ServesIn va u) (hp : s.phase = .idle)
    (hf : u.curFrame.toNat < s.params.numFrames)
    (hb : u.mem.read (frameBase u.curFrame + (offsetOf va).toNat) = some b) :
    ∃ t, exec (.translate va) s = .next t ∧ s.Answered t (u.answer va b) ∧ s.SameSurroundings t ∧ u.SameTables t ∧
      t.answers = u.answers := by
  have hbound : (combine u.curFrame u.curOffset).toNat < u.params.memBytes :=
    h.params ▸ combine_lt_memBytes hf u.curOffset
  have hread : u.combinePa.readByte = .ok (u.combinePa.withValue b) :=
    State.readByte_of_read hbound (by rw [combinePa_resPaddr, combinePa_mem, h.curOffset, combine_toNat]; exact hb)
  have hexec : exec (.translate va) s = .next (u.combinePa.withValue b).respond :=
    (h.execTranslate hp).trans (by rw [translateFinish, hread])
  have hresult : (u.combinePa.withValue b).result = u.answer va b := by
    simp [State.result, State.answer, h.curOffset]
  refine ⟨_, hexec, ?answered, ?surroundings, ?tables, by simp⟩
  case answered =>
    rw [← hresult]
    exact State.answered_respond h.respReady h.delivered
  case surroundings => simpa [State.SameSurroundings] using h.surroundings
  case tables => constructor <;> simp

/-- A TRANSLATE that delivers was served. -/
theorem exists_servesIn (hp : s.phase = .idle) (h : execTranslate va s = .next t) (hd : t.delivered ≠ s.delivered) :
    ∃ u, s.ServesIn va u ∧ translateFinish u = .next t := by
  rcases execTranslate_cases va s hp with ⟨f, hit, e⟩ | ⟨f, miss, mapped, e⟩ | ⟨miss, absent, e⟩ <;> rw [e] at h
  · exact ⟨_, .tlbHit f hit, h⟩
  · exact ⟨_, .tableHit f miss mapped, h⟩
  · change translateFault s (s.faulting va) = .next t at h
    cases alloc : ptAllocate s.params s.pt s.rq s.allocCount (pageOf va) with
    | error r =>
      rw [translateFault_of_error s (s := s.faulting va) (State.ptAllocate_faulting s va ▸ alloc)] at h
      cases h
    | ok a =>
      rw [translateFault_of_ok s (s := s.faulting va) (State.ptAllocate_faulting s va ▸ alloc)] at h
      rcases translateFill_cases s ((s.faulting va).allocated a) with
        ⟨_, e⟩ | ⟨_, _, _, _, _, e⟩ | ⟨_, e⟩ | ⟨rest, answer, inStore, frame, e⟩ <;> rw [e] at h
      · cases h
        exact absurd rfl hd
      · cases h
        exact absurd (by simp [State.faulting]) hd
      · cases h
      · have served : s.ServesIn va ((s.faulting va).allocated a).filled.insertTlb :=
          .pageFault a rest miss absent alloc (by simpa [State.faulting] using answer)
            (by simpa [State.faulting] using inStore) (by simpa [State.faulting] using frame)
        exact ⟨_, served, h⟩

/-- What is known of a delivered result `r`: the state `u` that served it, and the byte it read (R161). -/
structure State.DeliversFrom (va : Vaddr) (s t : State) (r : Result) (u : State) (b : Byte) : Prop where
  serves : s.ServesIn va u
  ready : s.respReady = true
  frame : u.curFrame.toNat < s.params.numFrames
  byte : u.mem.read (frameBase u.curFrame + (offsetOf va).toNat) = some b
  ends : t = (u.combinePa.withValue b).deliver
  result : r = u.answer va b

theorem exists_deliversFrom {r : Result} (h : exec (.translate va) s = .next t) (hp : s.phase = .idle)
    (hd : t.delivered = s.delivered ++ [r]) : ∃ u b, s.DeliversFrom va t r u b := by
  obtain ⟨u, hu, hfin⟩ := exists_servesIn hp h (by simp [hd])
  rcases translateFinish_cases u with ⟨b, hbound, hb, e⟩ | ⟨_, _, e⟩ <;> cases e.symm.trans hfin
  rw [hu.curOffset, combine_toNat] at hb
  have hframe : u.curFrame.toNat < s.params.numFrames := by
    rw [hu.params, combine_toNat, Params.memBytes, frameBase] at hbound
    simp only [pageSize] at hbound
    omega
  cases hr : s.respReady with
  | true =>
    have hready : (u.combinePa.withValue b).respReady = true := hu.respReady.trans hr
    rw [State.respond_ready _ hready] at hd ⊢
    have hresult : (u.combinePa.withValue b).result = u.answer va b := by
      simp [State.result, State.answer, hu.curOffset]
    have heq : s.delivered ++ [u.answer va b] = s.delivered ++ [r] := by
      rw [← hd, State.deliver_delivered, hresult]
      simp [hu.delivered]
    exact ⟨u, b, hu, hr, hframe, hb, rfl, by simpa using heq.symm⟩
  | false =>
    have hnot : (u.combinePa.withValue b).respReady = false := hu.respReady.trans hr
    rw [State.respond_notReady _ hnot] at hd
    simp [hu.delivered] at hd

/-! ## Hits (R161 steps 2 and 3) -/

/-- Settles O33: the TLB serves the page, and the rest is `State.ServesIn.answers`. -/
theorem translateTlbHit : Obligations.TranslateTlbHit := by
  intro va s f b hp hit hf hb
  obtain ⟨t, hexec, hanswered, hsurr, htables, hans⟩ := (State.ServesIn.tlbHit f hit).answers hp hf hb
  exact ⟨t, hexec, hanswered, hsurr, htables.tlb, htables.pt, htables.rq, htables.allocCount, htables.mem, hans⟩

/-- Settles O34: the page table serves the page, and the rest is `State.ServesIn.answers`. -/
theorem translatePageTableHit : Obligations.TranslatePageTableHit := by
  intro va s f b hp miss mapped hf hb
  obtain ⟨t, hexec, hanswered, hsurr, htables, hans⟩ := (State.ServesIn.tableHit f miss mapped).answers hp
    (by simpa using hf) (by simpa [frameBase] using hb)
  exact ⟨t, hexec, by simpa [State.answer, combine] using hanswered, hsurr, by simpa using htables.tlb,
    by simpa using htables.pt, by simpa using htables.rq, by simpa using htables.allocCount,
    by simpa using htables.mem, by simpa using hans⟩

/-! ## Page faults (R161 step 4) -/

/-- The frame that a page fault fills holds the page, and no other byte has changed (R157, R172). -/
theorem fault_fills_frame (s : State) (va : Vaddr) (a : Allocation) :
    (∀ o, o < pageSize → ((s.faulting va).allocated a).filled.mem.read (frameBase a.frame + o) =
      some (storeRead s.store (storeBase (pageOf va) + o))) ∧
    SameOutsideFrame a.frame s.mem ((s.faulting va).allocated a).filled.mem :=
  ⟨fun _ ho => by simpa [State.faulting] using ((s.faulting va).allocated a).read_filled ho,
    by simpa [State.faulting] using ((s.faulting va).allocated a).sameOutsideFrame_filled⟩

/-- The record of a page fault that byte `b` answers. -/
theorem fault_answer (s : State) (va : Vaddr) (a : Allocation) (b : Byte) :
    (((s.faulting va).allocated a).filled.insertTlb).answer va b =
      ⟨combine a.frame (offsetOf va), signed8 b, false, true⟩ := by
  simp [State.answer, State.filled, State.faulting]

/-- A page fault that is served, on either path of PT.ALLOC and under both policies. -/
theorem exec_translate_pageFault (hp : s.phase = .idle) (miss : tlbFind s.tlb (pageOf va) = none)
    (absent : ptGet s.pt (pageOf va) = none)
    (alloc : ptAllocate s.params s.pt s.rq s.allocCount (pageOf va) = .ok a) (answer : s.answers = .ok :: rest)
    (inStore : (pageOf va).toNat < s.params.bsPages) (frame : a.frame.toNat < s.params.numFrames) :
    ∃ t, exec (.translate va) s = .next t ∧
      s.Answered t ⟨a.frame ++ offsetOf va, signed8 (storeRead s.store va.toNat), false, true⟩ ∧
      s.SameSurroundings t ∧ t.answers = rest ∧
      t.tlb = tlbPush s.params.tlbSize (tlbAfterAlloc s.params.policy s.tlb a.evicted) (pageOf va) a.frame ∧
      t.pt = a.pt ∧ t.rq = a.rq ∧ t.allocCount = a.allocCount ∧
      t.Holds ⟨pageOf va, a.frame⟩ ∧ SameOutsideFrame a.frame s.mem t.mem := by
  obtain ⟨hin, hout⟩ := fault_fills_frame s va a
  have hbyte := hin (offsetOf va).toNat (offsetOf va).isLt
  rw [← toNat_eq_storeBase_add] at hbyte
  obtain ⟨t, hexec, hanswered, hsurr, htables, hans⟩ :=
    (State.ServesIn.pageFault a rest miss absent alloc answer inStore frame).answers hp
      (by simpa [State.filled] using frame) (by simpa [State.filled] using hbyte)
  rw [fault_answer] at hanswered
  refine ⟨t, hexec, hanswered, hsurr, ?answers, ?tlb, ?pt, ?rq, ?count, fun o ho => ?holds, fun o ho => ?outside⟩
  case answers => simp [hans, State.filled, State.faulting, answer]
  case tlb => simp [htables.tlb, State.filled, State.faulting]
  case pt => simp [htables.pt, State.filled]
  case rq => simp [htables.rq, State.filled]
  case count => simp [htables.allocCount, State.filled]
  case holds =>
    have hstore : t.store = s.store := by simp [htables.store, State.filled, State.faulting]
    rw [htables.mem, hstore]
    exact hin o ho
  case outside =>
    rw [htables.mem]
    exact hout o ho

/-- Settles O35: the page fault with the answer of R134, which evicts no page. -/
theorem translateFaultOnAFreeFrame : Obligations.TranslateFaultOnAFreeFrame := by
  intro va s rest hw hp miss absent hc answer inStore
  have alloc := ptAllocate_free (rq := s.rq) absent hc
  obtain ⟨_, hN, _⟩ := (Params.wf_iff _).mp hw
  have frame : (BitVec.ofNat 8 s.allocCount).toNat < s.params.numFrames := by
    rw [BitVec.toNat_ofNat]
    omega
  obtain ⟨t, hexec, hanswered, hsurr, hans, htlb, hpt, hrq, hcount, hholds, hout⟩ :=
    exec_translate_pageFault hp miss absent alloc answer inStore frame
  refine ⟨t, hexec, hanswered, hsurr, hans, ?tlb, hrq, hcount, fun q => ?slots, hholds, hout⟩
  case tlb => simpa only [freeAllocation, tlbAfterAlloc_none] using htlb
  case slots => rw [hpt, freeAllocation, ptGet_ptSet]

/-- Settles O36: the page fault with the answer of R135, which evicts the front of the queue. -/
theorem translateFaultEvictsTheOldestPage : Obligations.TranslateFaultEvictsTheOldestPage := by
  intro va s victim rest answers hp miss absent hc hq frame answer inStore
  have alloc : ptAllocate s.params s.pt s.rq s.allocCount (pageOf va) =
      .ok (evictingAllocation s.pt victim rest s.allocCount (pageOf va)) := hq ▸ ptAllocate_evicting absent hc
  obtain ⟨t, hexec, hanswered, hsurr, hans, htlb, hpt, hrq, hcount, hholds, hout⟩ :=
    exec_translate_pageFault hp miss absent alloc answer inStore frame
  refine ⟨t, hexec, hanswered, hsurr, hans, fun hpol => ?preserve, fun hpol => ?invalidate, hrq, hcount,
    fun q => ?slots, hholds, hout⟩
  case preserve => rw [htlb, hpol, tlbAfterAlloc_preserve]; rfl
  case invalidate => rw [htlb, hpol]; rfl
  case slots => rw [hpt, evictingAllocation, ptGet_ptSet, ptGet_ptSet]

/-! ## Delivered results (R162, R170, R171) -/

theorem State.Answered.eq_of_delivered {r r' : Result} (h : s.Answered t r') (hr : s.respReady = true)
    (hd : t.delivered = s.delivered ++ [r]) : r = r' := by
  have hdel := (h.1 hr).1
  rw [hd] at hdel
  simpa using hdel

/-- Settles O40: a delivered result was served in one of three ways (`exists_deliversFrom`), each with its own row of R162's
table: `translateTlbHit`, `translatePageTableHit` and `exec_translate_pageFault`. -/
theorem threeOutcomesNeverFour : Obligations.ThreeOutcomesNeverFour := by
  intro va s t r h hp hd
  obtain ⟨u, b, hserves, hready, hframe, hb, _, _⟩ := exists_deliversFrom h hp hd
  cases hserves with
  | tlbHit f hit =>
    obtain ⟨t', hexec, hanswered, _, htlb, hpt, hrq, hcount, hmem, hans⟩ := translateTlbHit va s f b hp hit hframe hb
    cases hexec.symm.trans h
    obtain rfl := hanswered.eq_of_delivered hready hd
    have hfound := tlbFind_mem hit
    have htable : ¬ ((∀ e ∈ s.tlb, e.page ≠ pageOf va) ∧ ptGet s.pt (pageOf va) = none) :=
      fun ⟨habs, _⟩ => habs _ hfound rfl
    exact ⟨by simp, iff_of_true rfl ⟨_, hfound, rfl⟩, iff_of_false (by simp) htable, fun _ => htlb,
      fun _ => ⟨hpt, hrq, hcount, hmem, hans⟩, nofun, nofun⟩
  | tableHit f miss mapped =>
    obtain ⟨t', hexec, hanswered, _, htlb, hpt, hrq, hcount, hmem, hans⟩ :=
      translatePageTableHit va s f b hp miss mapped (by simpa using hframe)
        (by simpa [frameBase] using hb)
    cases hexec.symm.trans h
    obtain rfl := hanswered.eq_of_delivered hready hd
    have habs := tlbFind_eq_none_iff.mp miss
    have htable : ¬ ((∀ e ∈ s.tlb, e.page ≠ pageOf va) ∧ ptGet s.pt (pageOf va) = none) := by simp [mapped]
    exact ⟨by simp, iff_of_false (by simp) fun ⟨e, he, hpage⟩ => habs e he hpage, iff_of_false (by simp) htable,
      nofun, fun _ => ⟨hpt, hrq, hcount, hmem, hans⟩, fun _ _ => ⟨f, mapped, htlb⟩,
      nofun⟩
  | pageFault a rest miss absent alloc answer inStore frame =>
    obtain ⟨t', hexec, hanswered, _, hans, htlb, hpt, hrq, hcount, hholds, hout⟩ :=
      exec_translate_pageFault hp miss absent alloc answer inStore frame
    cases hexec.symm.trans h
    obtain rfl := hanswered.eq_of_delivered hready hd
    have habs := tlbFind_eq_none_iff.mp miss
    have hstore : t.store = s.store := (exec_keepsInputs h).store
    refine ⟨by simp, iff_of_false (by simp) fun ⟨e, he, hpage⟩ => habs e he hpage, iff_of_true rfl ⟨habs, absent⟩,
      nofun, nofun, nofun,
      fun _ => ⟨a, alloc, hpt, hrq, hcount, ?kept, ?removed, fun o ho => ?holds, hout, hans.symm ▸ answer⟩⟩
    case kept =>
      rintro (hpol | hnone)
      · rw [htlb, hpol, tlbAfterAlloc_preserve]
      · rw [htlb, hnone, tlbAfterAlloc_none]
    case removed =>
      intro v hpol hv
      rw [htlb, hpol, hv, tlbAfterAlloc_evicted]
    case holds => exact hstore ▸ hholds o ho

/-- Settles O41: the result is `combine` of the frame that the TLB has (`State.ServesIn.tlbFind`) and the offset. -/
theorem theOffsetPassesThrough : Obligations.TheOffsetPassesThrough := by
  intro va s t r h hp hd
  obtain ⟨u, b, hserves, _, _, _, rfl, rfl⟩ := exists_deliversFrom h hp hd
  have hoffset : offsetOf (combine u.curFrame (offsetOf va)) = offsetOf va := offsetOf_join _ _
  have hframe : pageOf (combine u.curFrame (offsetOf va)) = u.curFrame := pageOf_join _ _
  exact ⟨hoffset, hserves.tlbFind.trans (congrArg some hframe.symm)⟩

/-- Settles O42: after the delivery the TLB has the page (`State.ServesIn.tlbFind`), the byte is where it was and the driver is
still ready; and a page that the TLB has is served by it (`State.ServesIn.of_hit`). -/
theorem immediateRepeatIsATlbHit : Obligations.ImmediateRepeatIsATlbHit := by
  intro va s t r h hp hd
  obtain ⟨u, b, hserves, hready, hframe, hb, rfl, rfl⟩ := exists_deliversFrom h hp hd
  generalize ht : (u.combinePa.withValue b).deliver = t at hd
  have hidle : t.phase = .idle := by rw [← ht]; rfl
  have hit : tlbFind t.tlb (pageOf va) = some u.curFrame := by rw [← ht]; exact hserves.tlbFind
  refine ⟨?same, fun va' v r' hpage hexec hdel => ?other⟩
  case same =>
    have hparams : t.params = s.params := by rw [← ht]; exact hserves.params
    have hready' : t.respReady = true := by rw [← ht]; exact hserves.respReady.trans hready
    have hb' : t.mem.read (frameBase u.curFrame + (offsetOf va).toNat) = some b := by rw [← ht]; exact hb
    obtain ⟨v, hexec, ⟨hdel, _⟩, _, htlb, hpt, hrq, hcount, hmem, _⟩ :=
      translateTlbHit va t u.curFrame b hidle hit (hparams ▸ hframe) hb'
    obtain ⟨hdel, hphase⟩ := hdel hready'
    exact ⟨v, hexec, hdel, hphase, htlb, hpt, hrq, hcount, hmem⟩
  case other =>
    obtain ⟨w, b', hserves', _, _, _, _, rfl⟩ := exists_deliversFrom hexec hidle hdel
    obtain rfl := hserves'.of_hit (hpage ▸ hit)
    have hframe' (o : Offset) : pageOf (combine u.curFrame o) = u.curFrame := pageOf_join _ _
    exact ⟨rfl, rfl, (hframe' _).trans (hframe' _).symm⟩

/-! ## What a result is worth (R172, R177) -/

/-- PT.ALLOC maps the page to the frame it answers (R132). -/
theorem ptGet_of_ptAllocate {c : Params} {pt : PageTable} {rq : List Entry} {count : Nat} {p : Page}
    (h : ptAllocate c pt rq count p = .ok a) : ptGet a.pt p = some a.frame := by
  obtain ⟨_, ⟨_, rfl⟩ | ⟨victim, rest, _, _, rfl⟩⟩ := ptAllocate_ok_cases h
  · simp [freeAllocation, ptGet_ptSet]
  · simp [evictingAllocation, ptGet_ptSet]

/-- A page that is resident, or that the fault brings in, is served from the frame it is mapped to (R57). -/
theorem State.ServesIn.mapped (h : s.ServesIn va u) (hs : s.Sound) (hp : s.phase = .idle)
    (hlive : ptGet s.pt (pageOf va) ≠ none ∨ u.resPageFault = true) :
    ptGet u.pt (pageOf va) = some u.curFrame := by
  cases h with
  | tlbHit f hit =>
    obtain ⟨_, hmap⟩ := hs.backs (by simp [hp]) _ (tlbFind_mem hit)
    have hres : ptGet s.pt (pageOf va) ≠ none := by simpa using hlive
    exact hmap.resolve_right fun hno => hres hno.1
  | tableHit f miss mapped => simpa using mapped
  | pageFault a rest miss absent alloc answer inStore frame =>
    simpa [State.filled] using ptGet_of_ptAllocate alloc

/-- Settles O57: the result comes from the frame its page is mapped to (`State.ServesIn.mapped`), and the frames of the queue
hold their pages after the transaction, which keeps the invariant. -/
theorem liveResultsAreTheStoreBytes : Obligations.LiveResultsAreTheStoreBytes := by
  intro va s t r hinv hp h hd hlive
  obtain ⟨hs, _⟩ := (State.inv_iff_sound s).mp hinv
  have ht : t.Sound := hs.execTranslate hp h
  obtain ⟨u, b, hserves, _, _, hb, rfl, rfl⟩ := exists_deliversFrom h hp hd
  have hmap : ptGet u.pt (pageOf va) = some u.curFrame := hserves.mapped hs hp hlive
  have hqueued : Entry.mk (pageOf va) u.curFrame ∈ u.rq := (ht.queue.agrees (pageOf va) u.curFrame).mp hmap
  obtain ⟨_, _, hstore, _⟩ := hserves.surroundings
  have hread : u.mem.read (frameBase u.curFrame + (offsetOf va).toNat) =
      some (storeRead u.store (storeBase (pageOf va) + (offsetOf va).toNat)) :=
    ht.holds rfl _ hqueued _ (offsetOf va).isLt
  rw [hb, hstore, ← toNat_eq_storeBase_add] at hread
  exact congrArg signed8 (Option.some.inj hread)

/-- Where the pages of the TLB are distinct, an entry is the one that the scan finds (R51, R111). -/
theorem tlbFind_of_mem {tlb : List Entry} {p : Page} {f : Frame} (hnodup : (tlb.map Entry.page).Nodup)
    (h : Entry.mk p f ∈ tlb) : tlbFind tlb p = some f := by
  cases hg : tlbFind tlb p with
  | none => exact absurd rfl (tlbFind_eq_none_iff.mp hg _ h)
  | some g => exact congrArg some (congrArg Entry.frame (List.inj_on_of_nodup_map hnodup (tlbFind_mem hg) h rfl))

/-- Settles O59: the entry's frame has an owner, another page (`State.QueueOk.exists_frame`), whose bytes it holds, and the
TLB serves the page from it (`translateTlbHit`). -/
theorem staleHitReturnsTheOwnersByte : Obligations.StaleHitReturnsTheOwnersByte := by
  intro p o f s hinv hp hmem habs
  obtain ⟨hs, _⟩ := (State.inv_iff_sound s).mp hinv
  have hit : tlbFind s.tlb (pageOf (p ++ o)) = some f := by
    rw [pageOf_join]
    exact tlbFind_of_mem hs.tlbPagesDistinct hmem
  obtain ⟨hlt, _⟩ := hs.tlbPointsSoundly _ hmem
  obtain ⟨⟨q, g⟩, hq, rfl⟩ := hs.queue.exists_frame hlt
  have hbyte := hs.holds (by rw [hp]; rfl) _ hq o.toNat o.isLt
  obtain ⟨t, hexec, hanswered, hsurr, htlb, hpt, hrq, hcount, hm, hans⟩ :=
    translateTlbHit (p ++ o) s g _ hp hit (hs.lt_numFrames hlt) (by rw [offsetOf_join]; exact hbyte)
  rw [offsetOf_join] at hanswered
  exact ⟨q, t, hq, hs.queue.page_ne_of_absent habs hq, hexec, hanswered, hsurr, hans, htlb, hpt, hrq, hcount, hm⟩

end Sys2Proof.Machine
end

section
/-! The walk through the phases (R163) implements the transaction (R14, R161): from phase to phase the walk passes the
transaction's own intermediate states, and the level is no part of what a transaction computes. -/

namespace Sys2Proof.Machine

variable {s t : State} {va : Vaddr} {a : Allocation} {n : Nat} {o : Host.Outcome State Fault Refusal}

/-! ## The level -/

/-- The state at a given level of R14. -/
def State.withLevel (s : State) (l : Level) : State := { s with level := l }

/-- The outcome of a fill with its state passed through `g`. -/
def FillOutcome.map (g : State → State) : FillOutcome → FillOutcome
  | .waiting => .waiting
  | .filled s => .filled (g s)
  | .failed s => .failed (g s)
  | .noFrame r => .noFrame r

theorem State.readByte_eq_map (s : State) :
    s.readByte = (memRead s.params s.mem s.resPaddr.toNat).map s.withValue := by
  rw [State.readByte]
  cases memRead s.params s.mem s.resPaddr.toNat <;> rfl

theorem State.readByte_withLevel (s : State) (l : Level) :
    (s.withLevel l).readByte = s.readByte.map (State.withLevel · l) := by
  rw [State.readByte_eq_map, State.readByte_eq_map]
  change (memRead s.params s.mem s.resPaddr.toNat).map _ = _
  cases memRead s.params s.mem s.resPaddr.toNat <;> rfl

theorem State.respond_withLevel (s : State) (l : Level) : (s.withLevel l).respond = s.respond.withLevel l := by
  cases hr : s.respReady with
  | true =>
    rw [State.respond_ready s hr, State.respond_ready (s.withLevel l) hr]
    rfl
  | false =>
    rw [State.respond_notReady s hr, State.respond_notReady (s.withLevel l) hr]
    rfl

theorem translateFinish_withLevel (s : State) (l : Level) :
    translateFinish (s.withLevel l) = atLevel l (translateFinish s) := by
  have hread : (s.withLevel l).combinePa.readByte = s.combinePa.readByte.map (State.withLevel · l) :=
    s.combinePa.readByte_withLevel l
  rw [translateFinish, translateFinish, hread]
  cases s.combinePa.readByte with
  | error r => rfl
  | ok u => exact congrArg Host.Outcome.next (u.respond_withLevel l)

theorem State.fill_withLevel (s : State) (l : Level) : (s.withLevel l).fill = s.fill.map (State.withLevel · l) := by
  rcases s.fill_cases with ⟨ha, e⟩ | ⟨_, _, k, ha, hk, e⟩ | ⟨_, ha, hp, hf, e⟩ | ⟨_, ha, hp, hf, e⟩ <;> rw [e]
  · exact State.fill_of_no_answer (s := s.withLevel l) ha
  · exact State.fill_of_error (s := s.withLevel l) ha hk
  · exact State.fill_of_noFrame (s := s.withLevel l) ha hp hf
  · exact State.fill_of_ok (s := s.withLevel l) ha hp hf

theorem translateFill_withLevel (before s : State) (l : Level) :
    translateFill (before.withLevel l) (s.withLevel l) = atLevel l (translateFill before s) := by
  rw [translateFill, translateFill, s.fill_withLevel]
  cases s.fill with
  | waiting => rfl
  | failed t => rfl
  | noFrame r => rfl
  | filled t => exact translateFinish_withLevel t.insertTlb l

theorem translateFault_withLevel (before s : State) (l : Level) :
    translateFault (before.withLevel l) (s.withLevel l) = atLevel l (translateFault before s) := by
  cases ha : ptAllocate s.params s.pt s.rq s.allocCount s.curPage with
  | error r =>
    rw [translateFault_of_error before ha, translateFault_of_error (s := s.withLevel l) (before.withLevel l) ha]
    rfl
  | ok a =>
    rw [translateFault_of_ok before ha, translateFault_of_ok (s := s.withLevel l) (before.withLevel l) ha]
    exact translateFill_withLevel before (s.allocated a) l

/-- A transaction computes the same at both levels. -/
theorem execTranslate_withLevel (hp : s.phase = .idle) (l : Level) :
    execTranslate va (s.withLevel l) = atLevel l (execTranslate va s) := by
  have hp' : (s.withLevel l).phase = .idle := hp
  rcases execTranslate_cases va s hp with ⟨f, hit, e⟩ | ⟨f, miss, mapped, e⟩ | ⟨miss, absent, e⟩ <;> rw [e]
  · rw [(State.ServesIn.tlbHit (s := s.withLevel l) f hit).execTranslate hp']
    exact translateFinish_withLevel ((s.accept va).splitVa.onTlbHit f) l
  · rw [(State.ServesIn.tableHit (s := s.withLevel l) f miss mapped).execTranslate hp']
    exact translateFinish_withLevel ((s.accept va).splitVa.flagTlbMiss.onPtHit f).insertTlb l
  · rw [execTranslate_of_absent (s := s.withLevel l) hp' miss absent]
    exact translateFault_withLevel s (s.faulting va) l

/-- What the phase level is to end in: one step of the transaction level (R14). -/
theorem transaction_at_phase_level (hw : s.params.wf = true) (hl : s.level = .phase) (hr : s.resetPin = false)
    (hp : s.phase = .idle) (hq : s.requests.head? = some va) :
    atLevel .phase (step { s with level := .transaction }) = execTranslate va s := by
  have hstep : step (s.withLevel .transaction) = execTranslate va (s.withLevel .transaction) :=
    step_transaction hw rfl hr hp hq
  have hback : (s.withLevel .transaction).withLevel .phase = s := by
    rw [← hl]
    rfl
  calc atLevel .phase (step (s.withLevel .transaction))
      = atLevel .phase (execTranslate va (s.withLevel .transaction)) := by rw [hstep]
    _ = execTranslate va ((s.withLevel .transaction).withLevel .phase) :=
      (execTranslate_withLevel (s := s.withLevel .transaction) hp .phase).symm
    _ = execTranslate va s := by rw [hback]

/-! ## The answers of the reader -/

/-- The state with other answers of the reader to come. -/
def State.withAnswers (s : State) (answers : List ReaderAnswer) : State := { s with answers := answers }

/-- Up to the fill, the answers to come have no part in a transaction. -/
theorem State.allocated_faulting_withAnswers (s : State) (va : Vaddr) (a : Allocation) (answers : List ReaderAnswer) :
    ((s.withAnswers answers).faulting va).allocated a = ((s.faulting va).allocated a).withAnswers answers := rfl

/-! ## The phase, where it is no part of what an operation computes -/

theorem State.respond_goto (s : State) (p : Phase) : (s.goto p).respond = s.respond := by
  cases hr : s.respReady with
  | true =>
    rw [State.respond_ready s hr, State.respond_ready (s.goto p) hr]
    rfl
  | false =>
    rw [State.respond_notReady s hr, State.respond_notReady (s.goto p) hr]
    rfl

theorem State.readByte_goto (s : State) (p : Phase) : (s.goto p).readByte = s.readByte.map (State.goto · p) := by
  rw [State.readByte_eq_map, State.readByte_eq_map]
  change (memRead s.params s.mem s.resPaddr.toNat).map _ = _
  cases memRead s.params s.mem s.resPaddr.toNat <;> rfl

/-- BS.FILL in `FILL` ends where `State.fill` does, a good one in `TLBI`. -/
theorem execBsFill_goto (s : State) :
    (s.answers = [] ∧ s.fill = .waiting) ∨
    (∃ t, s.fill = .failed t ∧ exec .bsFill (s.goto .fill) = .next t) ∨
    (∃ r, s.fill = .noFrame r ∧ exec .bsFill (s.goto .fill) = .fault r) ∨
    (∃ t, s.fill = .filled t ∧ t.params = s.params ∧ t.resetPin = s.resetPin ∧
      exec .bsFill (s.goto .fill) = .next (t.goto .tlbi)) := by
  rcases s.fill_cases with ⟨ha, e⟩ | ⟨_, _, k, ha, hk, e⟩ | ⟨_, ha, hp, hf, e⟩ | ⟨_, ha, hp, hf, e⟩ <;> rw [e]
  · exact .inl ⟨ha, rfl⟩
  · refine .inr (.inl ⟨_, rfl, ?_⟩)
    change execBsFill (s.goto .fill) = _
    rw [execBsFill, State.fill_of_error (s := s.goto .fill) ha hk]
    rfl
  · refine .inr (.inr (.inl ⟨_, rfl, ?_⟩))
    change execBsFill (s.goto .fill) = _
    rw [execBsFill, State.fill_of_noFrame (s := s.goto .fill) ha hp hf]
    rfl
  · refine .inr (.inr (.inr ⟨_, rfl, rfl, rfl, ?_⟩))
    change execBsFill (s.goto .fill) = _
    rw [execBsFill, State.fill_of_ok (s := s.goto .fill) ha hp hf]
    rfl

/-! ## Walks -/

/-- From `s`, at most `n` steps end in `o`. -/
def State.EndsWithin (s : State) (n : Nat) (o : Host.Outcome State Fault Refusal) : Prop :=
  ∃ m, m ≤ n ∧ Host.Core.run Sys2Proof.core m s = o

theorem State.EndsWithin.zero (s : State) : s.EndsWithin 0 (.next s) := ⟨0, le_rfl, rfl⟩

theorem State.EndsWithin.mono {k : Nat} (h : s.EndsWithin n o) (hk : n ≤ k) : s.EndsWithin k o := by
  obtain ⟨m, hm, hrun⟩ := h
  exact ⟨m, hm.trans hk, hrun⟩

theorem State.EndsWithin.step (h : t.EndsWithin n o) (hs : Machine.step s = .next t) : s.EndsWithin (n + 1) o := by
  obtain ⟨m, hm, hrun⟩ := h
  have hs : Sys2Proof.core.step s = .next t := hs
  exact ⟨m + 1, Nat.succ_le_succ hm, by simpa only [Host.Core.run, hs] using hrun⟩

theorem State.EndsWithin.one (hs : Machine.step s = o) : s.EndsWithin 1 o := by
  have hs : Sys2Proof.core.step s = o := hs
  refine ⟨1, le_rfl, ?_⟩
  simp only [Host.Core.run, hs]
  cases o <;> rfl

/-- The parameters are legal and the reset pin is low, so that a step is one of the walk. -/
structure State.Walks (s : State) : Prop where
  legal : s.params.wf = true
  noReset : s.resetPin = false

namespace State.Walks

theorem faulting (h : s.Walks) (va : Vaddr) : (s.faulting va).Walks where
  legal := by simpa [State.faulting] using h.legal
  noReset := by simpa [State.faulting] using h.noReset

theorem allocated (h : s.Walks) (a : Allocation) : (s.allocated a).Walks := ⟨h.legal, h.noReset⟩

/-- In a phase a step runs the micro-operation of the phase's code (R100). -/
theorem step_goto (h : s.Walks) {p : Phase} {i : Instr} (hi : decode (.seq4 (phaseCode p)) = .ok i) :
    step (s.goto p) = exec i (s.goto p) := by
  obtain ⟨_, _, hphase⟩ := stepRunsTheSelectedOperation (s.goto p) h.legal
  exact hphase h.noReset i hi

/-! ### From `COMB` to the result -/

theorem resp (h : s.Walks) : (s.goto .resp).EndsWithin 1 (.next s.respond) := by
  have hstep : Machine.step (s.goto .resp) = exec .respond (s.goto .resp) := h.step_goto rfl
  exact .one (hstep.trans (congrArg Host.Outcome.next (s.respond_goto .resp)))

theorem read (h : s.Walks) {b : Byte} (hb : s.readByte = .ok (s.withValue b)) :
    (s.goto .read).EndsWithin 2 (.next (s.withValue b).respond) := by
  have hstep : Machine.step (s.goto .read) = exec .memRead (s.goto .read) := h.step_goto rfl
  have hexec : exec .memRead (s.goto .read) = .next ((s.withValue b).goto .resp) := by
    change execMemRead _ = _
    rw [execMemRead, State.readByte_goto, hb]
    rfl
  have hresp : ((s.withValue b).goto .resp).EndsWithin 1 (.next (s.withValue b).respond) :=
    resp ⟨h.legal, h.noReset⟩
  exact hresp.step (hstep.trans hexec)

theorem read_fault (h : s.Walks) {r : Fault} (hr : s.readByte = .error r) :
    (s.goto .read).EndsWithin 2 (.fault r) := by
  have hstep : Machine.step (s.goto .read) = exec .memRead (s.goto .read) := h.step_goto rfl
  have hexec : exec .memRead (s.goto .read) = .fault r := by
    change execMemRead _ = _
    rw [execMemRead, State.readByte_goto, hr]
    rfl
  exact (EndsWithin.one (hstep.trans hexec)).mono (by decide)

theorem comb (h : s.Walks) : (s.goto .comb).EndsWithin 3 (translateFinish s) := by
  have hstep : Machine.step (s.goto .comb) = exec .paCombine (s.goto .comb) := h.step_goto rfl
  have hread : s.combinePa.Walks := ⟨h.legal, h.noReset⟩
  suffices (s.combinePa.goto .read).EndsWithin 2 (translateFinish s) from this.step hstep
  rw [translateFinish]
  rcases s.combinePa.readByte_cases with ⟨b, _, _, e⟩ | ⟨r, _, e⟩ <;> rw [e]
  · exact hread.read e
  · exact hread.read_fault e

theorem tlbi (h : s.Walks) : (s.goto .tlbi).EndsWithin 4 (translateFinish s.insertTlb) := by
  have hstep : Machine.step (s.goto .tlbi) = exec .tlbInsert (s.goto .tlbi) := h.step_goto rfl
  have hcomb : s.insertTlb.Walks := ⟨h.legal, h.noReset⟩
  exact hcomb.comb.step hstep

/-! ### From `ALLOC` to the fill, and from the fill on -/

/-- Once there is an answer of the reader, the walk from `FILL` ends as the transaction does; without one it would wait. -/
theorem fill (h : s.Walks) (ha : s.answers ≠ []) (before : State) :
    (s.goto .fill).EndsWithin 5 (translateFill before s) := by
  have hstep : Machine.step (s.goto .fill) = exec .bsFill (s.goto .fill) := h.step_goto rfl
  rw [translateFill]
  rcases execBsFill_goto s with ⟨hnone, _⟩ | ⟨t, e, hexec⟩ | ⟨r, e, hexec⟩ | ⟨t, e, hparams, hpin, hexec⟩
  · exact absurd hnone ha
  · rw [e]
    exact (EndsWithin.one (hstep.trans hexec)).mono (by decide)
  · rw [e]
    exact (EndsWithin.one (hstep.trans hexec)).mono (by decide)
  · rw [e]
    have ht : t.Walks := ⟨hparams ▸ h.legal, hpin ▸ h.noReset⟩
    exact ht.tlbi.step (hstep.trans hexec)

/-- PT.ALLOC, and the TLB.INVAL that may follow it, come to the fill. -/
theorem alloc (h : s.Walks) (ha : ptAllocate s.params s.pt s.rq s.allocCount s.curPage = .ok a)
    (hfill : ((s.allocated a).goto .fill).EndsWithin n o) : (s.goto .alloc).EndsWithin (n + 2) o := by
  have hstep : Machine.step (s.goto .alloc) = exec .ptAlloc (s.goto .alloc) := h.step_goto rfl
  have hexec : exec .ptAlloc (s.goto .alloc) =
      .next ((s.withAllocation a).goto (if (s.withAllocation a).mustInvalidate then .inval else .fill)) :=
    exec_ptAlloc_of_ok (s := s.goto .alloc) ha
  cases hm : (s.withAllocation a).mustInvalidate with
  | true =>
    rw [hm] at hexec
    rw [State.allocated_of_mustInvalidate hm] at hfill
    have hinval : (s.withAllocation a).Walks := ⟨h.legal, h.noReset⟩
    have hstep' : Machine.step ((s.withAllocation a).goto .inval) = exec .tlbInval ((s.withAllocation a).goto .inval) :=
      hinval.step_goto rfl
    exact (hfill.step hstep').step (hstep.trans hexec)
  | false =>
    rw [hm] at hexec
    rw [State.allocated_of_not_mustInvalidate hm] at hfill
    exact (hfill.step (hstep.trans hexec)).mono (by omega)

theorem alloc_refused (h : s.Walks) {r : Refusal}
    (hr : ptAllocate s.params s.pt s.rq s.allocCount s.curPage = .error r) :
    (s.goto .alloc).EndsWithin 1 (.refused r) := by
  have hstep : Machine.step (s.goto .alloc) = exec .ptAlloc (s.goto .alloc) := h.step_goto rfl
  exact .one (hstep.trans (exec_ptAlloc_of_error (s := s.goto .alloc) hr))

/-! ### From the request to the lookups -/

/-- Accepting the request and splitting the address come to the TLB lookup. -/
theorem idle (h : s.Walks) (hl : s.level = .phase) (hp : s.phase = .idle) (hq : s.requests.head? = some va)
    (htlbl : ((s.accept va).splitVa.goto .tlbl).EndsWithin n o) : s.EndsWithin (n + 2) o := by
  have haccepts : s.acceptsOnly = true :=
    (acceptsOnly_iff s).mpr ⟨hl, h.noReset, hp, fun hnone => by simp [hnone] at hq⟩
  have hhead : s.headRequest = va := by simp [State.headRequest, List.headD_eq_head?_getD, hq]
  have hstep : Machine.step s = .next (s.accept va) := hhead ▸ step_of_acceptsOnly h.legal haccepts
  have hsplit : (s.accept va).Walks := ⟨h.legal, h.noReset⟩
  have hstep' : Machine.step ((s.accept va).goto .split) = exec .vaSplit ((s.accept va).goto .split) :=
    hsplit.step_goto rfl
  exact (htlbl.step hstep').step hstep

theorem tlbl_hit (h : s.Walks) {f : Frame} (hit : tlbFind s.tlb s.curPage = some f)
    (hcomb : ((s.onTlbHit f).goto .comb).EndsWithin n o) : (s.goto .tlbl).EndsWithin (n + 1) o := by
  have hstep : Machine.step (s.goto .tlbl) = exec .tlbLookup (s.goto .tlbl) := h.step_goto rfl
  exact hcomb.step (hstep.trans (exec_tlbLookup_hit (s := s.goto .tlbl) hit))

theorem tlbl_miss (h : s.Walks) (miss : tlbFind s.tlb s.curPage = none)
    (hptl : (s.flagTlbMiss.goto .ptl).EndsWithin n o) : (s.goto .tlbl).EndsWithin (n + 1) o := by
  have hstep : Machine.step (s.goto .tlbl) = exec .tlbLookup (s.goto .tlbl) := h.step_goto rfl
  exact hptl.step (hstep.trans (exec_tlbLookup_miss (s := s.goto .tlbl) miss))

theorem ptl_hit (h : s.Walks) {f : Frame} (mapped : ptGet s.pt s.curPage = some f)
    (htlbi : ((s.onPtHit f).goto .tlbi).EndsWithin n o) : (s.goto .ptl).EndsWithin (n + 1) o := by
  have hstep : Machine.step (s.goto .ptl) = exec .ptLookup (s.goto .ptl) := h.step_goto rfl
  exact htlbi.step (hstep.trans (exec_ptLookup_hit (s := s.goto .ptl) mapped))

theorem ptl_absent (h : s.Walks) (absent : ptGet s.pt s.curPage = none)
    (halloc : ((s.flagPageFault true).goto .alloc).EndsWithin n o) : (s.goto .ptl).EndsWithin (n + 1) o := by
  have hstep : Machine.step (s.goto .ptl) = exec .ptLookup (s.goto .ptl) := h.step_goto rfl
  exact halloc.step (hstep.trans (exec_ptLookup_absent (s := s.goto .ptl) absent))

/-- Where both lookups miss the walk comes to PT.ALLOC. -/
theorem to_alloc (h : s.Walks) (hl : s.level = .phase) (hp : s.phase = .idle) (hq : s.requests.head? = some va)
    (miss : tlbFind s.tlb (pageOf va) = none) (absent : ptGet s.pt (pageOf va) = none)
    (halloc : ((s.faulting va).goto .alloc).EndsWithin n o) : s.EndsWithin (n + 4) o := by
  have hsplit : (s.accept va).splitVa.Walks := ⟨h.legal, h.noReset⟩
  have hmissed : (s.accept va).splitVa.flagTlbMiss.Walks := ⟨h.legal, h.noReset⟩
  exact h.idle hl hp hq (hsplit.tlbl_miss miss (hmissed.ptl_absent absent halloc))

/-- The walk ends as the transaction does, unless that waits for the reader. -/
theorem execTranslate (h : s.Walks) (hl : s.level = .phase) (hp : s.phase = .idle) (hq : s.requests.head? = some va)
    (hanswer : s.answers = [] → ¬ s.AsksTheReader va) : s.EndsWithin 11 (Machine.execTranslate va s) := by
  have hsplit : (s.accept va).splitVa.Walks := ⟨h.legal, h.noReset⟩
  rcases execTranslate_cases va s hp with ⟨f, hit, e⟩ | ⟨f, miss, mapped, e⟩ | ⟨miss, absent, e⟩ <;> rw [e]
  · have hcomb : ((s.accept va).splitVa.onTlbHit f).Walks := ⟨h.legal, h.noReset⟩
    exact (h.idle hl hp hq (hsplit.tlbl_hit hit hcomb.comb)).mono (by decide)
  · have hmissed : (s.accept va).splitVa.flagTlbMiss.Walks := ⟨h.legal, h.noReset⟩
    have htlbi : ((s.accept va).splitVa.flagTlbMiss.onPtHit f).Walks := ⟨h.legal, h.noReset⟩
    exact (h.idle hl hp hq (hsplit.tlbl_miss miss (hmissed.ptl_hit mapped htlbi.tlbi))).mono (by decide)
  · have halloc := h.faulting va
    change s.EndsWithin 11 (translateFault s (s.faulting va))
    cases ha' : ptAllocate s.params s.pt s.rq s.allocCount (pageOf va) with
    | error r =>
      have ha := (State.ptAllocate_faulting s va).trans ha'
      rw [translateFault_of_error s (s := s.faulting va) ha]
      exact (h.to_alloc hl hp hq miss absent (halloc.alloc_refused ha)).mono (by decide)
    | ok a =>
      have ha := (State.ptAllocate_faulting s va).trans ha'
      rw [translateFault_of_ok s (s := s.faulting va) ha]
      have hasks : s.AsksTheReader va := ⟨miss, absent, (exists_ptAllocate_ok_iff _ _ _ absent).mp ⟨a, ha'⟩⟩
      have hany : s.answers ≠ [] := fun hnone => hanswer hnone hasks
      have hfill := halloc.allocated a
      have hstill : ((s.faulting va).allocated a).answers ≠ [] := by simpa [State.faulting] using hany
      exact h.to_alloc hl hp hq miss absent (halloc.alloc ha (hfill.fill hstill s))

/-- Where the transaction waits for the reader the walk comes to `FILL`, and goes on from there as the transaction with the
answer does. -/
theorem execTranslate_of_asks (h : s.Walks) (hl : s.level = .phase) (hp : s.phase = .idle)
    (hq : s.requests.head? = some va) (hasks : s.AsksTheReader va) :
    ∃ t, s.EndsWithin 6 (.next t) ∧ t.phase = .fill ∧ ∀ answers, answers ≠ [] →
      (t.withAnswers answers).EndsWithin 5 (Machine.execTranslate va (s.withAnswers answers)) := by
  obtain ⟨miss, absent, hframe⟩ := hasks
  obtain ⟨a, ha⟩ := (exists_ptAllocate_ok_iff s.params s.rq s.allocCount absent).mpr hframe
  have halloc := h.faulting va
  refine ⟨((s.faulting va).allocated a).goto .fill, ?comes, State.goto_phase _ _, fun answers hany => ?goes⟩
  case comes =>
    exact h.to_alloc hl hp hq miss absent (halloc.alloc ((s.ptAllocate_faulting va).trans ha) (.zero _))
  case goes =>
    have hfill : (((s.faulting va).allocated a).withAnswers answers).Walks :=
      ⟨(halloc.allocated a).legal, (halloc.allocated a).noReset⟩
    have halloc' := ((s.withAnswers answers).ptAllocate_faulting va).trans ha
    rw [execTranslate_of_absent (s := s.withAnswers answers) hp miss absent, translateFault_of_ok _ halloc',
      State.allocated_faulting_withAnswers]
    exact hfill.fill hany _

end State.Walks

/-- Settles O45: one step of the transaction level is the transaction (`transaction_at_phase_level`), and the walk ends in it
(`State.Walks.execTranslate`) or waits where it waits (`State.Walks.execTranslate_of_asks`). -/
theorem thePhaseWalkImplementsTheTransaction : Obligations.ThePhaseWalkImplementsTheTransaction := by
  intro s va hw hl hr hp hq
  have walks : s.Walks := ⟨hw, hr⟩
  refine ⟨fun hanswer => ?ends, fun _ hasks => ?waits⟩
  case ends =>
    rw [transaction_at_phase_level hw hl hr hp hq]
    exact walks.execTranslate hl hp hq hanswer
  case waits =>
    obtain ⟨t, ⟨n, hn, hrun⟩, hfill, hgoes⟩ := walks.execTranslate_of_asks hl hp hq hasks
    refine ⟨n, t, hn, hrun, hfill, fun answer later => ?_⟩
    have htransaction := transaction_at_phase_level (s := s.withAnswers (answer :: later)) hw hl hr hp hq
    exact htransaction ▸ hgoes (answer :: later) (by simp)

end Sys2Proof.Machine
end

section
/-! The one exception (R190 to R204): a read that fails halts the machine, by BS.FILL and within a transaction; the error
registers; and the environment's part in the invariant. -/

namespace Sys2Proof.Machine

variable {s t : State} {va : Vaddr} {a : Allocation} {answer : ReaderAnswer} {rest : List ReaderAnswer} {k : FailKind}
  {p : Page}

/-! ## A read that fails (R192, R199, R200) -/

/-- `State.ReadFails` says of the draw what `BsReadPage` answers (R192, R206). -/
theorem State.ReadFails.bsReadPage_eq (h : s.ReadFails answer p k) :
    bsReadPage s.params s.store answer p = .error k := by
  obtain ⟨hbeyond, rfl⟩ | ⟨hin, rfl⟩ := h
  · exact if_pos hbeyond
  · exact if_neg hin.not_ge

/-- The state after the exception of the read that the state `s` asks for: the answer is used up, the machine halted. -/
def State.readFailed (s : State) (k : FailKind) : State := s.useAnswer.takeBackingStoreFault k s.curPage

theorem State.fill_of_readFails (ha : s.answers = answer :: rest) (h : s.ReadFails answer s.curPage k) :
    s.fill = .failed (s.readFailed k) :=
  State.fill_of_error ha h.bsReadPage_eq

/-- Taking the exception meets R199 and R200: the frame is erased, and the rest is what no update on the way writes. -/
theorem State.haltedOn_readFailed (ha : s.answers = answer :: rest) (k : FailKind) :
    s.HaltedOn (s.readFailed k) k s.curPage s.curFrame rest := by
  have hrest : (s.readFailed k).answers = rest := congrArg List.tail ha
  have hin : ∀ o, o < pageSize → (s.readFailed k).mem.read (frameBase s.curFrame + o) = none :=
    fun o ho => Memory.read_erase_in s.mem ⟨Nat.le_add_right _ _, Nat.add_lt_add_left ho _⟩
  have hout : SameOutsideFrame s.curFrame s.mem (s.readFailed k).mem := fun _ => Memory.read_erase_out s.mem
  exact ⟨rfl, rfl, rfl, rfl, rfl, hrest, rfl, rfl, rfl, rfl, rfl, rfl, hin, hout⟩

/-- Settles O26: BS.FILL ends in `State.readFailed`, which writes none of the tables. -/
theorem bsFillFailureHaltsTheMachine : Obligations.BsFillFailureHaltsTheMachine := by
  intro s answer rest k ha hfails
  have hexec : exec .bsFill s = .next (s.readFailed k) := by
    change execBsFill s = _
    rw [execBsFill, State.fill_of_readFails ha hfails]
  exact ⟨_, hexec, State.haltedOn_readFailed ha k, rfl, rfl, rfl, rfl, rfl⟩

/-! ## A transaction whose read fails (R161 step 4) -/

/-- A page fault whose read fails, on either path of PT.ALLOC and under both policies: the machine halts, and what PT.ALLOC
and TLB.INVAL did stands (R200 (a), (b)). -/
theorem exec_translate_readFails (hp : s.phase = .idle) (miss : tlbFind s.tlb (pageOf va) = none)
    (absent : ptGet s.pt (pageOf va) = none)
    (alloc : ptAllocate s.params s.pt s.rq s.allocCount (pageOf va) = .ok a) (ha : s.answers = answer :: rest)
    (hfails : s.ReadFails answer (pageOf va) k) :
    ∃ t, exec (.translate va) s = .next t ∧ s.HaltedOn t k (pageOf va) a.frame rest ∧
      t.requests = s.requests.tail ∧ t.tlb = tlbAfterAlloc s.params.policy s.tlb a.evicted ∧
      t.pt = a.pt ∧ t.rq = a.rq ∧ t.allocCount = a.allocCount := by
  have hfault : translateFault s (s.faulting va) = translateFill s ((s.faulting va).allocated a) :=
    translateFault_of_ok s (State.ptAllocate_faulting s va ▸ alloc)
  have hfill : ((s.faulting va).allocated a).fill = .failed (((s.faulting va).allocated a).readFailed k) :=
    State.fill_of_readFails (rest := rest) ha hfails
  have hexec : exec (.translate va) s = .next (((s.faulting va).allocated a).readFailed k) := by
    change execTranslate va s = _
    rw [execTranslate_of_absent hp miss absent, hfault, translateFill, hfill]
  have halted : s.HaltedOn (((s.faulting va).allocated a).readFailed k) k (pageOf va) a.frame rest :=
    State.haltedOn_readFailed (s := (s.faulting va).allocated a) ha k
  exact ⟨_, hexec, halted, rfl, rfl, rfl, rfl, rfl⟩

/-- Settles O37: the failing page fault with the answer of R134, which evicts no page, and with that of R135, which evicts the
front of the queue. -/
theorem translateFaultOnAFailingRead : Obligations.TranslateFaultOnAFailingRead := by
  intro va s answer k rest hp miss absent ha hfails
  refine ⟨fun hc => ?free, fun hc victim queue hq => ?evicting⟩
  case free =>
    obtain ⟨t, hexec, halted, hreq, htlb, hpt, hrq, hcount⟩ :=
      exec_translate_readFails hp miss absent (ptAllocate_free absent hc) ha hfails
    refine ⟨t, hexec, halted, hreq, ?tlb, hrq, hcount, fun q => ?slots⟩
    case tlb => simpa only [freeAllocation, tlbAfterAlloc_none] using htlb
    case slots => rw [hpt, freeAllocation, ptGet_ptSet]
  case evicting =>
    obtain ⟨t, hexec, halted, hreq, htlb, hpt, hrq, hcount⟩ :=
      exec_translate_readFails hp miss absent (hq ▸ ptAllocate_evicting absent hc) ha hfails
    refine ⟨t, hexec, halted, hreq, fun hpol => ?preserve, fun hpol => ?invalidate, hrq, hcount, fun q => ?slots⟩
    case preserve => rw [htlb, hpol, tlbAfterAlloc_preserve]
    case invalidate => rw [htlb, hpol, evictingAllocation, tlbAfterAlloc_evicted]
    case slots => rw [hpt, evictingAllocation, ptGet_ptSet, ptGet_ptSet]

/-! ## The error registers (R41, R202) -/

/-- From `s` to `t` the error registers stay. -/
def State.KeepsError (s t : State) : Prop := t.errCause = s.errCause ∧ t.errPage = s.errPage

theorem State.KeepsError.refl (s : State) : s.KeepsError s := ⟨rfl, rfl⟩

/-- From `s` to `t` the error registers stay, or `t` has halted with a cause. -/
def State.KeepsErrorOrHalts (s t : State) : Prop := s.KeepsError t ∨ (t.phase = .halt ∧ t.errCause ≠ .none)

theorem State.keepsErrorOrHalts_readFailed (s u : State) (k : FailKind) : s.KeepsErrorOrHalts (u.readFailed k) :=
  .inr ⟨rfl, causeOf_ne_none k⟩

/-- A transaction that a frame serves ends without writing the error registers. -/
theorem translateFinish_keepsError {u : State} (h : translateFinish u = .next t) (hu : s.KeepsError u) :
    s.KeepsError t := by
  rcases translateFinish_cases u with ⟨b, _, _, e⟩ | ⟨r, _, e⟩ <;> cases e.symm.trans h
  simpa [State.KeepsError] using hu

/-- A transaction that has come to its fill writes the error registers only where its read fails. -/
theorem translateFill_keepsErrorOrHalts {u : State} (h : translateFill s u = .next t) (hu : s.KeepsError u) :
    s.KeepsErrorOrHalts t := by
  rcases translateFill_cases s u with ⟨_, e⟩ | ⟨_, _, k, _, _, e⟩ | ⟨_, e⟩ | ⟨_, _, _, _, e⟩ <;> rw [e] at h
  · cases h
    exact .inl (.refl s)
  · cases h
    exact s.keepsErrorOrHalts_readFailed u k
  · cases h
  · exact .inl (translateFinish_keepsError h hu)

/-- Of the ways of a TRANSLATE (R161), only the page fault can write the error registers. -/
theorem execTranslate_keepsErrorOrHalts (h : execTranslate va s = .next t) : s.KeepsErrorOrHalts t := by
  by_cases hp : s.phase = .idle
  · rcases execTranslate_cases va s hp with ⟨f, _, e⟩ | ⟨f, _, _, e⟩ | ⟨_, _, e⟩ <;> rw [e] at h
    · exact .inl (translateFinish_keepsError h ⟨rfl, rfl⟩)
    · exact .inl (translateFinish_keepsError h ⟨rfl, rfl⟩)
    · rcases translateFault_cases s (s.faulting va) with ⟨r, _, e⟩ | ⟨a, _, _, e⟩ | ⟨a, _, _, e⟩
      · cases e.symm.trans h
      · exact translateFill_keepsErrorOrHalts (e.symm.trans h) ⟨rfl, rfl⟩
      · exact translateFill_keepsErrorOrHalts (e.symm.trans h) ⟨rfl, rfl⟩
  · cases (execTranslate_of_not_idle hp).symm.trans h
    exact .inl (.refl s)

/-- Of the operations but RESET, only TRANSLATE and BS.FILL can write the error registers (R41). -/
theorem exec_keepsErrorOrHalts {i : Instr} (hi : i ≠ .reset) (h : exec i s = .next t) : s.KeepsErrorOrHalts t := by
  cases i with
  | translate va => exact execTranslate_keepsErrorOrHalts h
  | reset => exact absurd rfl hi
  | bsFill =>
    rcases execBsFill_cases s with ⟨_, e⟩ | ⟨_, _, k, _, _, e⟩ | ⟨_, e⟩ | ⟨_, _, _, _, e⟩ <;> cases e.symm.trans h
    · exact .inl (.refl s)
    · exact s.keepsErrorOrHalts_readFailed s k
    · exact .inl ⟨rfl, rfl⟩
  | vaSplit | tlbLookup | ptLookup | ptAlloc | tlbInval | tlbInsert | paCombine | memRead | respond =>
    obtain ⟨_, _, hfillOnly, _⟩ := eachStructureHasItsWriters _ s t h hi (by simp)
    obtain ⟨_, hcause, hpage, _⟩ := hfillOnly (by simp)
    exact .inl ⟨hcause, hpage⟩

/-- Only the reset pin selects RESET (R198). -/
theorem fetch_ne_reset (hr : s.resetPin = false) : fetch s ≠ some .reset := by
  intro hf
  cases hp : s.phase with
  | idle => simp [fetch_idle hr hp] at hf
  | split | tlbl | ptl | alloc | inval | fill | tlbi | comb | read | resp | halt =>
    simpa [hp, hf] using fetch_phase hr

/-- Settles O56: in `HALT` a step changes nothing (`step_halted`), and elsewhere the operation keeps the error registers or
halts (`exec_keepsErrorOrHalts`). -/
theorem errorRegistersAreWrittenOnce : Obligations.ErrorRegistersAreWrittenOnce := by
  intro s t h hr
  rcases step_cases s with ⟨_, e⟩ | ⟨_, _, e⟩ | ⟨_, _, _, e⟩ | ⟨i, hw, _, hf, e⟩
  · cases e.symm.trans h
  · cases e.symm.trans h
    exact .inl ⟨rfl, rfl⟩
  · cases e.symm.trans h
    exact .inl ⟨rfl, rfl⟩
  · by_cases hp : s.phase = .halt
    · cases (step_halted hw hp hr).symm.trans h
      exact .inl ⟨rfl, rfl⟩
    · have hi : i ≠ .reset := fun hi => fetch_ne_reset hr (hi ▸ hf)
      exact (exec_keepsErrorOrHalts hi (e.symm.trans h)).imp_right fun ⟨halts, cause⟩ => ⟨hp, halts, cause⟩

/-! ## The environment (R204) -/

/-- Settles O47: soundness says nothing of the inputs (`State.Sound.withInputs`), and R14 speaks of level and phase alone. -/
theorem theEnvironmentKeepsTheInvariant : Obligations.TheEnvironmentKeepsTheInvariant := by
  intro s resetPin requests respReady answers h
  obtain ⟨hsound, hwhole⟩ := (State.inv_iff_sound s).mp h
  exact (State.inv_iff_sound _).mpr ⟨hsound.withInputs resetPin requests respReady answers, hwhole⟩

end Sys2Proof.Machine
end

section
/-! Power-up and RESET (R220 to R222), the first transaction (R174), and what a result is worth under each policy (R230). -/

namespace Sys2Proof.Machine

variable {s t u : State} {va : Vaddr}

/-! ## RESET and power-up -/

/-- Settles O11: RESET runs in every phase, the pin selects it (`fetch_inReset`), and the laws of `State.afterReset` say
what each field holds then. -/
theorem resetInAnyPhaseEmptiesTheEngine : Obligations.ResetInAnyPhaseEmptiesTheEngine := fun s =>
  have hstep (hw : s.params.wf = true) (hr : s.resetPin = true) : step s = .next s.afterReset :=
    step_of_fetch hw (acceptsOnly_of_inReset hr) (fetch_inReset hr)
  ⟨s.afterReset, rfl, hstep, rfl, ptGet_empty, rfl, rfl, rfl, rfl, rfl, Memory.read_nil, rfl, rfl, rfl, rfl, rfl, rfl,
    rfl, rfl⟩

/-- A sound state that waits for a request meets the invariant: no transaction is part of the way. -/
theorem State.Sound.inv_of_idle (h : s.Sound) (hp : s.phase = .idle) : s.Inv :=
  (State.inv_iff_sound s).mpr ⟨h, fun _ => .inl hp⟩

/-- Power-up is sound (`State.Sound.powerUp`) and waits for a request. -/
theorem State.inv_powerUp {c : Params} (legal : c.wf = true) (store : Memory) (level : Level) :
    (State.powerUp c store level).Inv :=
  (State.Sound.powerUp legal store level).inv_of_idle rfl

/-- Settles O46: the state right after reset is a power-up with the default parameters. -/
theorem theInvariantHoldsAtPowerUp : Obligations.TheInvariantHoldsAtPowerUp :=
  have hdefault : Params.default.wf = true := by decide
  ⟨State.inv_powerUp hdefault [] .transaction, fun _ store level legal => State.inv_powerUp legal store level⟩

/-- Settles O38: at power-up both lookups miss and every frame is free, so that the transaction is the page fault of
R134 with count 0 (`translateFaultOnAFreeFrame`). -/
theorem firstTranslateFaultsOnFrameZero : Obligations.FirstTranslateFaultsOnFrameZero := by
  intro va c store level requests rest legal inStore
  have hframe : 0 < c.numFrames := ((Params.wf_iff c).mp legal).1
  obtain ⟨t, hexec, hanswered, _, _, htlb, hrq, hcount, _⟩ := translateFaultOnAFreeFrame va
    ((State.powerUp c store level).withInputs false requests true (.ok :: rest)) rest legal rfl rfl (ptGet_empty _)
    hframe rfl inStore
  obtain ⟨hdelivered, hidle⟩ := hanswered.1 rfl
  have hpush : tlbPush c.tlbSize [] (pageOf va) 0#8 = [⟨pageOf va, 0#8⟩] := by simp [tlbPush]
  exact ⟨t, hexec, hdelivered, hidle, htlb.trans hpush, hrq, hcount⟩

/-! ## What a result is worth (R230) -/

/-- Under `INVALIDATE` no transaction is served by a stale entry: its page is resident, or the fault brings it in (R57). -/
theorem State.ServesIn.live_of_invalidate (h : s.ServesIn va u) (hs : s.Sound) (hp : s.phase = .idle)
    (hpol : s.params.policy = .invalidate) : ptGet s.pt (pageOf va) ≠ none ∨ u.resPageFault = true := by
  cases h with
  | tlbHit f hit =>
    obtain ⟨_, hmap | ⟨_, hpreserve⟩⟩ := hs.backs (by simp [hp]) _ (tlbFind_mem hit)
    · exact .inl (by simp [hmap])
    · cases hpol.symm.trans hpreserve
  | tableHit f miss mapped => exact .inl (by simp [mapped])
  | pageFault a rest miss absent alloc answer inStore frame => exact .inr (by simp [State.filled, State.faulting])

/-- Settles O58: under `INVALIDATE` every result is a live one (`State.ServesIn.live_of_invalidate`), and a live result is the
store's byte (`liveResultsAreTheStoreBytes`). -/
theorem invalidateResultsAreTheStoreBytes : Obligations.InvalidateResultsAreTheStoreBytes := by
  intro va s t r hinv hpol hp h hd
  obtain ⟨hs, _⟩ := (State.inv_iff_sound s).mp hinv
  obtain ⟨u, b, hfrom⟩ := exists_deliversFrom h hp hd
  have hlive := hfrom.serves.live_of_invalidate hs hp hpol
  have hflag : r.pageFault = u.resPageFault := congrArg Result.pageFault hfrom.result
  exact liveResultsAreTheStoreBytes va s t r hinv hp h hd (hflag ▸ hlive)

/-- A store whose bytes at the start of pages 0 and 1 differ. -/
def twoPages : Memory := [(0, 1#8), (256, 2#8)]

/-- One frame for two pages, under `PRESERVE`. -/
def oneFrame : Params := { numFrames := 1, tlbSize := 2, bsPages := 2, policy := .preserve }

/-- The one-frame machine at power-up, with a ready driver and two good answers of the reader to come. -/
def oneFrameStart : State := (State.powerUp oneFrame twoPages .transaction).withInputs false [] true [.ok, .ok]

theorem oneFrameStart_sound : oneFrameStart.Sound :=
  (State.Sound.powerUp (by decide) twoPages .transaction).withInputs false [] true [.ok, .ok]

/-- The first TRANSLATE from there brings page 0 into the one frame (R134). -/
theorem exists_page_zero_resident : ∃ s : State, s.Sound ∧ oneFrameStart.KeepsInputs s ∧ s.phase = .idle ∧
    s.answers = [.ok] ∧ s.tlb = [⟨0#8, 0#8⟩] ∧ s.rq = [⟨0#8, 0#8⟩] ∧ s.allocCount = 1 ∧ ptGet s.pt 1#8 = none := by
  obtain ⟨s, hexec, ⟨hanswered, _⟩, _, hans, htlb, hrq, hcount, hpt, _⟩ :=
    translateFaultOnAFreeFrame 0x0000#16 oneFrameStart [.ok] oneFrameStart_sound.paramsWf rfl rfl (ptGet_empty _)
      (by decide) rfl (by decide)
  have habs : ptGet s.pt 1#8 = none := by
    rw [hpt, if_neg (by decide)]
    exact ptGet_empty _
  exact ⟨s, oneFrameStart_sound.execTranslate rfl hexec, exec_keepsInputs hexec, (hanswered rfl).2, hans, htlb, hrq, hcount,
    habs⟩

/-- The second TRANSLATE evicts page 0 from the frame for page 1, and under `PRESERVE` the entry for page 0 stays in the TLB
(R116, R135): it is stale. -/
theorem exists_stale_entry : ∃ s : State, s.Inv ∧ s.phase = .idle ∧ s.respReady = true ∧ s.params = oneFrame ∧
    s.store = twoPages ∧ Entry.mk 0#8 0#8 ∈ s.tlb ∧ s.rq = [⟨1#8, 0#8⟩] := by
  obtain ⟨s, hs, hstart, hp, hans, htlb, hrq, hcount, habs⟩ := exists_page_zero_resident
  have hparams : s.params = oneFrame := hstart.params
  have hready : s.respReady = true := hstart.respReady
  have miss : tlbFind s.tlb (pageOf 0x0100#16) = none := by
    rw [htlb]
    decide
  obtain ⟨t, hexec, ⟨hanswered, _⟩, _, _, hpreserve, _, hqueue, _⟩ :=
    translateFaultEvictsTheOldestPage 0x0100#16 s ⟨0#8, 0#8⟩ [] [] hp miss habs (by rw [hparams, hcount]; decide) hrq
      (by rw [hparams]; decide) hans (by rw [hparams]; decide)
  have hkeeps := exec_keepsInputs hexec
  have hidle : t.phase = .idle := (hanswered hready).2
  have hstale : Entry.mk 0#8 0#8 ∈ t.tlb := by
    rw [hpreserve (by rw [hparams]; rfl), htlb, hparams]
    decide
  exact ⟨t, (hs.execTranslate hp hexec).inv_of_idle hidle, hidle, hkeeps.respReady.trans hready,
    hkeeps.params.trans hparams, hkeeps.store.trans hstart.store, hstale, hqueue⟩

/-- Settles O60: after the run of `exists_stale_entry`, page 0 is served from the frame that holds page 1 now
(`staleHitReturnsTheOwnersByte`), and the two pages differ. -/
theorem preserveCanReturnAnotherPagesByte : Obligations.PreserveCanReturnAnotherPagesByte := by
  obtain ⟨s, hinv, hp, hready, hparams, hstore, hstale, hrq⟩ := exists_stale_entry
  have habs : ptGet s.pt 0#8 = none := Option.eq_none_iff_forall_ne_some.mpr fun f hf => by
    simpa [hrq] using (hinv.tableAgreesWithQueue 0#8 f).mp hf
  obtain ⟨q, t, howner, hq, hexec, ⟨hdelivered, _⟩, _⟩ :=
    staleHitReturnsTheOwnersByte 0#8 0#8 0#8 s hinv hp hstale habs
  obtain rfl : q = 1#8 := by simpa [hrq] using howner
  have hdiffer : signed8 (storeRead s.store (256 + 0)) ≠ signed8 (storeRead s.store 0) := by
    rw [hstore]
    decide
  have hpreserve : s.params.policy = .preserve := by rw [hparams]; rfl
  exact ⟨_, s, t, _, 1#8, hinv, hpreserve, hp, hexec, (hdelivered hready).1, hq, rfl, hdiffer⟩

end Sys2Proof.Machine
end

section
/-! The words of the opcode table (R91, R100, R220), read at the place that their size tells (log entry 14). -/

namespace Sys2Proof.Machine

variable {nbits w : Nat}

/-- A table word that stands for an operation's own word decodes to the operation. -/
theorem decodeTableWord_of_encode {i : Instr} (h : tableWord nbits w = some (encode i)) :
    decodeTableWord nbits w = some i := by
  simp [decodeTableWord, h, decode_encode]

/-- A table word that stands for a rejected word decodes to nothing. -/
theorem decodeTableWord_of_error {pw : PortWord} {e : DecodeError} (h : tableWord nbits w = some pw)
    (he : decode pw = .error e) : decodeTableWord nbits w = none := by
  simp [decodeTableWord, h, he]

/-- Settles O3: seven words stand for an operation's own word (`decodeTableWord_of_encode`), and the last two for codes that
select nothing (`decodeTableWord_of_error`). -/
theorem writtenOutWordsDecode : Obligations.WrittenOutWordsDecode := by
  refine ⟨?_, ?_, ?_, ?_, ?_, ?_, ?_, ?unused, ?halt⟩
  case unused => exact decodeTableWord_of_error (pw := .seq4 11#4) (e := .unusedPhase 11#4) rfl rfl
  case halt => exact decodeTableWord_of_error (pw := .seq4 15#4) (e := .haltPhase) rfl rfl
  all_goals exact decodeTableWord_of_encode rfl

end Sys2Proof.Machine
end
